-- ==== Sys2Proof/Word.lean ====
section
/-! DEFINITION. The words of the HX416: window registers and table words are 16 bits wide, mirror
bytes 8, sample values 32. -/

namespace Sys2Proof

/-- A window register or a table word (R159). -/
abbrev Word := BitVec 16

/-- One byte on the mirror port (R145). -/
abbrev Byte := BitVec 8

/-- A response, a sample value, a limit or a mask (R60, R75, R95). -/
abbrev Value := BitVec 32

end Sys2Proof
end

