-- ==== Sys2Proof/Syntax.lean ====
section
/-! DEFINITION. The commands of the HX416: one constructor for each row of spec/opcode_table.json.
A row is a host access, an event on a pin, an event of the timebase, or an event of a lane or of the
scan controller. Each step is whole and indivisible (95_what_each_step_holds). -/

namespace Sys2Proof

/-- One step of the device. The operands are what the outside brings to the step: the word written
by the host, the level of a pin at the sample that finds an event, the bytes of a mirror request, the
lane concerned. -/
inductive Instr where
  /-- COMMAND write of START (R43). -/
  | start
  /-- COMMAND write of STOP (R44). -/
  | stop
  /-- COMMAND write of ABORT (R45). -/
  | abort
  /-- COMMAND write of TRIGGER (R47). -/
  | trigger
  /-- COMMAND write of COMMIT (R15). -/
  | commit
  /-- COMMAND write of CANCEL_COMMIT (R18). -/
  | cancelCommit
  /-- COMMAND write of CLEAR_LANE; the lane number stands in CMD_ARG (R68). -/
  | clearLane
  /-- COMMAND write of CLEAR_SLOT; the slot number stands in CMD_ARG (R91). -/
  | clearSlot
  /-- COMMAND write of CLEAR_OVERRUN (R25). -/
  | clearOverrun
  /-- COMMAND write of CLEAR_SCHEDULE_ERROR (R33). -/
  | clearScheduleError
  /-- COMMAND write of CLEAR_ALERT_LOST (R109). -/
  | clearAlertLost
  /-- COMMAND write of SOFT_RESET (R170). -/
  | softReset
  /-- COMMAND write of a value that is no command code (R167). -/
  | undefinedCommandCode (value : Word)
  /-- Power is applied, or RESET is sampled low (R180). -/
  | powerOnReset
  /-- The tick that brings the frame timer's count from 1 to 0, the timer's expiry taken first (R117). -/
  | timerExpiry
  /-- A sample of FTRIG that finds `level`; an edge where it differs from the last one (R120). -/
  | ftrigEdge (level : Bool)
  /-- The walker issues its held entry into a freed place and resumes (R35). -/
  | heldQueueRelease
  /-- The walk has drained and the frame ends (R40). -/
  | frameEnd
  /-- A sample of LnRDY, taken in READY_WAIT, that finds `rdy` (R57). -/
  | readySeen (lane : Fin 4) (rdy : Bool)
  /-- The tick at which the ready wait of the lane expires, the lane's expiry taken first (R57). -/
  | readyTimeout (lane : Fin 4)
  /-- The lane's shifting ends; bit k − 1 of `din` is the level of LnDI at the capture edge of bit
  period k (R56, R60, R61). -/
  | shiftEnd (lane : Fin 4) (din : BitVec 64)
  /-- The lane's gap ends (R62). -/
  | gapEnd (lane : Fin 4)
  /-- The tick at which the lane's pause expires, the lane's expiry taken first (R63). -/
  | pauseExpiry (lane : Fin 4)
  /-- Host read of EV_CLAIM (R132). -/
  | evClaim
  /-- Host write of EV_DONE (R135). -/
  | evDone (value : Word)
  /-- Host write of EV_RAISE (R137). -/
  | evRaise (value : Word)
  /-- Host write of EV_THRESH (R131). -/
  | evThreshWrite (value : Word)
  /-- Host read of ALERT_W0 (R105). -/
  | hostAlertPeek
  /-- Host write of ALERT_ACK (R106). -/
  | alertAck (value : Word)
  /-- Host read of MIRROR_NOTE (R154). -/
  | mirrorNoteRead
  /-- Host write of SAMPLE_SEL with the consume bit set (R87). -/
  | sampleSnapshotConsume (slot : Byte)
  /-- Host write of SAMPLE_SEL with the consume bit clear (R86). -/
  | samplePeek (slot : Byte)
  /-- Host read of TABLE_DATA (R164). -/
  | tableDataRead
  /-- Host write of TABLE_DATA through selector 0 (R13). -/
  | stagedBankWrite (value : Word)
  /-- Host write of TABLE_DATA through selector 2 (R96). -/
  | slotConfigWrite (value : Word)
  /-- Host write of TABLE_DATA through selector 3 (R50). -/
  | laneConfigWrite (value : Word)
  /-- Host write of TABLE_DATA through selector 4 (R124). -/
  | sourceConfigWrite (value : Word)
  /-- Host write of TABLE_SEL (R163). -/
  | tableSelWrite (value : Word)
  /-- Host write of TIMER_MODE (R115). -/
  | timerModeWrite (value : Word)
  /-- Host write of TIMER_DIV (R113). -/
  | timerDivWrite (value : Word)
  /-- Host write of TIMER_PERIOD (R119). -/
  | timerPeriodWrite (value : Word)
  /-- Host write of ACCESS_ERR (R173). -/
  | accessErrWrite (value : Word)
  /-- Host write of a register with no row of its own: CMD_ARG, TABLE_ADDR, MIRROR_CFG, a read-only
  register, or TABLE_DATA through a read-only selector (R160). -/
  | registerWrite (addr : BitVec 5) (value : Word)
  /-- MSEL is asserted while MCLK stands at `mclk` (R146). -/
  | mselAssert (mclk : Bool)
  /-- MSEL is deasserted (R148). -/
  | mselDeassert
  /-- Request complete of a READ_SLOT naming `slot` (R149). -/
  | readSlot (slot : Byte)
  /-- Request complete of a READ_RUN from `slot` (R150). -/
  | readRun (slot : Byte)
  /-- The next record of a READ_RUN begins (R150). -/
  | readRunNextRecord
  /-- Request complete of a READ_STATE (R151). -/
  | readState
  /-- Request complete of a PEEK_ALERT (R152). -/
  | peekAlert
  /-- Request complete of an ACK_ALERT naming `serial` (R152). -/
  | ackAlert (serial : Byte)
  /-- Request complete of a POST_NOTE (R153). -/
  | postNote (note : Byte)
  /-- Request complete of a command byte that holds no command code (R155). -/
  | mirrorUnknownCommand (command : Byte)
  /-- A tick of the timebase (R112). -/
  | tick
  /-- A sample of MCLK that finds `level`, with MDI at `mdi` (R145). -/
  | mclkEdge (level mdi : Bool)
  /-- The first CLKIN edge that samples RESET high, with FTRIG at `ftrig` and MSEL asserted or not
  (R180, R122, R158). -/
  | resetRelease (ftrig mselAsserted : Bool)
deriving DecidableEq, Repr

end Sys2Proof
end

