-- ==== Sys2Proof/Decode.lean ====
section
/-! DEFINITION. The commands that a word spells by the bits of the opcode table. No row of the table
gives bits (98_reader: no row has fixed bits or fields), so no word spells a command. -/

namespace Sys2Proof

/-- The command that the word `_w` of `_nbits` bits spells: none, since no row gives bits. -/
def decodeTableWord (_nbits _w : Nat) : Option Instr := none

end Sys2Proof
end

