-- ==== Sys2Proof/Config.lean ====
section
/-! DEFINITION. The figures that the manual fixes for this part. The manual leaves no value of the
HX416 open to the implementation, so there is no free value here. -/

namespace Sys2Proof.Config

/-- The word that the ID register reads: family code A6h and revision 01h (R161, 11.1). -/
abbrev idWord : Word := 0xA601

/-- The most items that wait in one lane queue (R54). -/
abbrev queueDepth : Nat := 4

/-- The most records that the alert queue holds (R102). -/
abbrev alertDepth : Nat := 16

/-- The index of the last entry of a bank (R1). -/
abbrev lastEntry : Nat := 63

/-- The level at which the overrun count saturates (R25). -/
abbrev overrunMax : BitVec 8 := 255

/-- The turnaround byte that opens every mirror response (R147). -/
abbrev turnaround : Byte := 0xC3

end Sys2Proof.Config
end

