-- ==== Sys2Proof/Machine/State.lean ====
section
/-! DEFINITION. The state of the HX416, block by block as the introduction lists them, and the state
right after reset. Every structure is plain data. -/

namespace Sys2Proof.Machine

/-- Why a command stops the block. The manual names no such event: a refused command, access or
mirror request leaves its target as it was, reports itself in a latch, and the block goes on (00_scope,
Refusals). So there is no fault, and nothing raises one. -/
inductive Fault where
deriving DecidableEq, Repr

/-- Why the model has no answer. -/
inductive Refusal where
  /-- Raised by an arm of `exec` for a row without a meaning; safe, since nothing is then claimed of it. -/
  | notModelled (mnemonic : String)
deriving DecidableEq, Repr

/-! ### Schedule banks (chapter 1) -/

/-- An entry record: eight words, whatever its kind (R1, R179). -/
structure Entry where
  words : Vector Word 8
deriving DecidableEq, Repr

/-- A schedule bank: 64 entry records (R1). -/
abbrev Bank := Vector Entry 64

/-- The six entry kinds (R2). -/
inductive EntryKind where
  | empty | exchange | write | gate | pause | endWalk
deriving DecidableEq, Repr

/-- The names of the two banks (R11). -/
inductive BankName where
  | a | b
deriving DecidableEq, Repr

/-! ### Scan controller (chapter 2) -/

/-- Controller states (R21). -/
inductive CtrlState where
  | stopped | waiting | active
deriving DecidableEq, Repr

/-- Walker states (R29). -/
inductive WalkerState where
  | idle | issuing | heldQueue | heldGate | draining
deriving DecidableEq, Repr

/-- A run of entry indices, both ends included (R37). -/
structure SkipWindow where
  first : Fin 64
  last  : Fin 64
deriving DecidableEq, Repr

/-- Outcome field of a frame report (R42). -/
inductive FrameOutcome where
  | inProgress | complete | aborted
deriving DecidableEq, Repr

/-- A frame report (R42). `completed` is the count the manual calls done. -/
structure FrameReport where
  frame       : Word
  outcome     : FrameOutcome
  due         : Nat
  issued      : Nat
  completed   : Nat
  faulted     : Nat
  laneSkipped : Nat
  aborted     : Nat
  gateSkipped : Nat
  rejected    : Nat
deriving DecidableEq, Repr

/-- Reasons of a rejection (R32). -/
inductive RejectReason where
  | laneDisabled | readyUnavailable
deriving DecidableEq, Repr

/-- What the schedule-error latch records of a rejection (R33). -/
structure ScheduleError where
  frame  : Word
  index  : Fin 64
  reason : RejectReason
deriving DecidableEq, Repr

/-- The scan controller and its walker (R21 to R42), with the bank selector and commit_pending (R11). -/
structure Ctrl where
  state         : CtrlState
  walker        : WalkerState
  position      : Fin 64
  window        : Option SkipWindow
  frame         : Word
  stopPending   : Bool
  deferred      : Bool
  abortMark     : Bool
  commitPending : Bool
  active        : BankName
  current       : FrameReport
  last          : FrameReport
  schedError    : Option ScheduleError
  schedRepeat   : Bool
  overruns      : BitVec 8
deriving DecidableEq, Repr

/-! ### Lanes (chapter 3) -/

/-- The ready-input field of a lane (R49). -/
inductive ReadyInput where
  | disabled | activeHigh | activeLow
deriving DecidableEq, Repr

/-- Lane configuration record (R49). -/
structure LaneConfig where
  enable           : Bool
  divider          : BitVec 11
  clockMode        : BitVec 2
  lsbFirst         : Bool
  selectActiveHigh : Bool
  fillBit          : Bool
  ready            : ReadyInput
  readyTimeout     : BitVec 12
  responseCheck    : Bool
  gap              : Byte
  haltOnFault      : Bool
  loopback         : Bool
deriving DecidableEq, Repr

/-- The kinds an item can have (R30, R34). -/
inductive ItemKind where
  | exchange | write | gate | pause
deriving DecidableEq, Repr

/-- An item: what the walker copied from its entry, and the frame number (R34, R54). -/
structure Item where
  index     : Fin 64
  kind      : ItemKind
  select    : BitVec 2
  waitReady : Bool
  outLen    : BitVec 6
  outWord   : Value
  inLen     : BitVec 6
  slot      : Fin 64
  extShift  : BitVec 5
  extWidth  : Nat
  extSigned : Bool
  duration  : Word
  frame     : Word
deriving DecidableEq, Repr

/-- Fault kinds of an item (R65). -/
inductive FaultKind where
  | readyTimeout | stuckResponse
deriving DecidableEq, Repr

/-- How an item ends (R65); a DONE carries the response, zero-extended (R60). -/
inductive ItemOutcome where
  | completed (response : Value)
  | fault (kind : FaultKind)
  | skipped
  | aborted
deriving DecidableEq, Repr

/-- The seven lane states (R53), each with the item in progress it has, the ticks counted in a wait
or a pause (R57, R63), and in GAP the outcome decided at the end of shifting (R61). -/
inductive LanePhase where
  | disabled
  | idle
  | readyWait (item : Item) (ticks : Nat)
  | shifting (item : Item)
  | gap (item : Item) (decided : ItemOutcome)
  | pausing (item : Item) (ticks : Nat)
  | halted
deriving DecidableEq, Repr

/-- A lane: configuration, state with the item in progress, and the waiting items, head first (R54). -/
structure Lane where
  cfg   : LaneConfig
  phase : LanePhase
  queue : List Item
deriving DecidableEq, Repr

/-! ### Sample table (chapter 4) -/

/-- Slot status (R76). -/
inductive SlotStatus where
  | empty | fresh | read | fault
deriving DecidableEq, Repr

/-- Limit state of a slot (R98). -/
inductive LimitState where
  | unknown | inBand | high | low
deriving DecidableEq, Repr

/-- A slot record (R75); `faultKind` is none for NONE. -/
structure Slot where
  value     : Value
  sequence  : Word
  status    : SlotStatus
  faultKind : Option FaultKind
  limit     : LimitState
  overwrite : Bool
deriving DecidableEq, Repr

/-- The sample table: slots, host sample latch, SAMPLE_SEL contents (R75, R88, R89). -/
structure SampleTable where
  slots      : Vector Slot 64
  latchIndex : Fin 64
  latch      : Slot
  selSlot    : Fin 64
  selConsume : Bool
deriving DecidableEq, Repr

/-! ### Limit monitor and alert queue (chapter 5) -/

/-- Slot configuration (R95). -/
structure SlotConfig where
  high        : Value
  low         : Value
  hysteresis  : Value
  limitEnable : Bool
  highAlert   : Bool
  lowAlert    : Bool
  returnAlert : Bool
  faultAlert  : Bool
  watch       : Bool
deriving DecidableEq, Repr

/-- Alert kinds; `none` is the empty marker's (R101). -/
inductive AlertKind where
  | none | high | low | back | fault
deriving DecidableEq, Repr

/-- An alert record (R101). -/
structure AlertRecord where
  serial   : Byte
  kind     : AlertKind
  slot     : Fin 64
  sequence : Word
  value    : Value
deriving DecidableEq, Repr

/-- Outcomes of an acknowledgement (R106); NONE before the first one of the host (R107). -/
inductive AckOutcome where
  | none | accepted | stale | empty
deriving DecidableEq, Repr

/-- The alert queue, head first, with its serials, lost flag and the host's latch (R101 to R107). -/
structure AlertQueue where
  records    : List AlertRecord
  nextSerial : Byte
  lost       : Bool
  hostLatch  : AlertRecord
  hostAck    : AckOutcome
deriving DecidableEq, Repr

/-! ### Timebase and frame timer (chapter 6) -/

/-- Timer modes (R115). -/
inductive TimerMode where
  | off | periodic | oneShot | external
deriving DecidableEq, Repr

/-- The timebase and the frame timer (chapter 6). `tickLength` is the length of the tick under way in
CLKIN periods (R113). -/
structure Timebase where
  divider     : Word
  tickLength  : Word
  tickPhase   : Word
  mode        : TimerMode
  fallingEdge : Bool
  deferPolicy : Bool
  counting    : Bool
  period      : Word
  count       : Word
  ftrig       : Bool
deriving DecidableEq, Repr

/-! ### Event controller (chapter 7) -/

/-- Per-source configuration (R124). -/
structure SourceConfig where
  masked : Bool
  level  : BitVec 3
deriving DecidableEq, Repr

/-- An entry of the service stack (R128). -/
structure ServiceEntry where
  source : Fin 16
  level  : BitVec 3
deriving DecidableEq, Repr

/-- The event controller. `edges` holds the pending edge sources, bit n for source n; ALERT_READY is
pending by its condition (R126) and is computed. The stack stands top first (R128). -/
structure Events where
  sources       : Vector SourceConfig 16
  edges         : Word
  stack         : List ServiceEntry
  threshold     : BitVec 3
  irqActiveHigh : Bool
deriving DecidableEq, Repr

/-! ### Mirror port (chapter 8) -/

/-- MIRROR_CFG and the configuration in force (R144). -/
structure MirrorConfig where
  enable    : Bool
  clockMode : BitVec 2
deriving DecidableEq, Repr

/-- Transaction states (chapter 8). -/
inductive Transaction where
  | idle | request | response | abandoned
deriving DecidableEq, Repr

/-- Status of a response (R155). -/
inductive MirrorStatus where
  | ok | refused | unknown | accepted | stale | empty
deriving DecidableEq, Repr

/-- The state record of READ_STATE (R151). -/
structure StateRecord where
  state         : CtrlState
  walker        : WalkerState
  stopPending   : Bool
  deferred      : Bool
  commitPending : Bool
  active        : BankName
  frame         : Word
  overruns      : BitVec 8
  alertCount    : Nat
deriving DecidableEq, Repr

/-- The mirror record latch: all zeros, or the record being sent (R149 to R152, R157). -/
inductive MirrorRecord where
  | zeros
  | slot (index : Fin 64) (record : Slot)
  | state (record : StateRecord)
  | alert (record : AlertRecord)
deriving DecidableEq, Repr

/-- Mirror protocol errors (R156). -/
inductive MirrorError where
  | incomplete | unknown | refused
deriving DecidableEq, Repr

/-- What the mirror error latch records: the error, and the command byte if one was received (R156). -/
structure MirrorErrorRecord where
  error   : MirrorError
  command : Option Byte
deriving DecidableEq, Repr

/-- The mirror port (chapter 8). `mclk` is the last sampled level of MCLK, `inPeriod` says that a bit
period has had its leading edge and not yet its trailing edge (R145), `records` counts the records a
READ_RUN has snapshotted (R150), `mdo` is none while MDO is high-impedance (R143). -/
structure Mirror where
  cfg          : MirrorConfig
  inForce      : MirrorConfig
  transaction  : Transaction
  bitCount     : Nat
  command      : Byte
  argument     : Byte
  status       : MirrorStatus
  latch        : MirrorRecord
  records      : Nat
  mclk         : Bool
  inPeriod     : Bool
  mdo          : Option Bool
  mselAsserted : Bool
  note         : Byte
  unread       : Bool
  overwrite    : Bool
  error        : Option MirrorErrorRecord
  errorRepeat  : Bool
deriving DecidableEq, Repr

/-! ### Host window (chapter 9) -/

/-- The seven indirect tables, selectors 0 to 6 (9.3). -/
inductive Table where
  | staged | active | slotConfig | laneConfig | sourceConfig | reports | latches
deriving DecidableEq, Repr

/-- Command results (R168). -/
inductive CmdResult where
  | accepted | refusedState | refusedArg | refusedBank | refusedCode
deriving DecidableEq, Repr

/-- The seven access errors (9.5). -/
inductive AccessError where
  | readOnlyTarget | tableRange | bankFrozen | configBusy | badValue | doneEmpty | doneMismatch
deriving DecidableEq, Repr

/-- What the access-error latch and its detail record (R171). -/
structure AccessRecord where
  error        : AccessError
  addr         : BitVec 5
  isWrite      : Bool
  tableSel     : Table
  tableAddrLow : BitVec 13
deriving DecidableEq, Repr

/-- The host window's own state (chapter 9). `lastRead` is the word that D15 to D0 carried for the
most recent host read (R159); it is the model's record of that pin group (log entry 16). -/
structure Window where
  tableSel     : Table
  tableAddr    : Word
  cmdArg       : Word
  result       : CmdResult
  resultIndex  : Fin 64
  accessError  : Option AccessRecord
  accessRepeat : Bool
  lastRead     : Option Word
deriving DecidableEq, Repr

/-! ### What meets an operation of the scan controller -/

/-- An event that ends items on the lanes: the end of a lane's gap, the end of its shifting with the
levels of LnDI, a tick (R46, R71). -/
inductive LaneEnd where
  | gapEnd (lane : Fin 4)
  | shiftEnd (lane : Fin 4) (din : BitVec 64)
  | tick
deriving DecidableEq, Repr

/-- What can arise between an ABORT and the last of its abort requests: a lane event, or the request of
one lane before the others (R46, R70, R71). -/
inductive AbortStep where
  | event (e : LaneEnd)
  | request (lane : Fin 4)
deriving DecidableEq, Repr

/-- A host read that the event controller takes: of EV_CLAIM, of EV_PENDING, of EV_SERVICE (R132, R138). -/
inductive EventRead where
  | claim | pending | service
deriving DecidableEq, Repr

/-- What can follow in the moment of a tick: a lane that the tick has brought into READY_WAIT or PAUSING
counts that tick too (R114), or the release of the held entry or the frame end that the tick has made due is
taken (R35, R40). -/
inductive LateStep where
  | count (lane : Fin 4)
  | release
  | frameEnd
deriving DecidableEq, Repr

/-- What meets an ABORT, a STOP in WAITING, a tick, a frame end or a SOFT_RESET. `before` are the lane events that
the scan controller takes just before an ABORT, a walker that they release not issuing again; `between` is what
arises between it and the abort requests still to come (R46, R71). `tickFirst` says that the timer takes an
expiring tick before the halt that a STOP or an ABORT in WAITING brings, its trigger coming after the entry (R118).
`order` says in which order the lanes take the end of a tick that ends waits on several of them, lanes it does not
name last. `late` is what follows in the moment of a tick once its waits have ended, and `lateAfter` what follows
behind a trigger that comes last (R114). `afterFrameEnd` and `afterSwap` are the host reads that the event
controller takes after the raise of FRAME_END and after that of BANK_SWAP, as many as it may be (R139, R175).
`endsAgain` says that where the frame end comes before a trigger of the same moment, and starts a frame that ends
at once, that second frame end comes before the trigger too (R26). `rows` are the events that their blocks take
just before a SOFT_RESET and whose raises meet it, and `keep` are the sources of the first of them whose raise
reaches the event controller after the reset (R142). The manual leaves open which of them arise (log entry 34). -/
structure Meeting where
  before        : List LaneEnd
  between       : List AbortStep
  tickFirst     : Bool
  order         : List (Fin 4)
  late          : List LateStep
  lateAfter     : List LateStep
  afterFrameEnd : List EventRead
  afterSwap     : List EventRead
  endsAgain     : Bool
  rows          : List Instr
  keep          : Word
deriving DecidableEq, Repr

/-- Nothing meets the operation. -/
def Meeting.nothing : Meeting :=
  { before := [], between := [], tickFirst := false, order := [], late := [], lateAfter := []
    afterFrameEnd := [], afterSwap := [], endsAgain := false, rows := [], keep := 0 }

/-! ### The whole device -/

/-- The state of the device, and the commands that wait, first in, first out. `inReset` says that the
device is held in power-on reset (R180). `meetings` is the model's own: for each ABORT, each
STOP in WAITING, each tick, each frame end and each SOFT_RESET to come, what meets it, nothing where the list has
run out; it is free, and no statement rests on its value (log entry 34). -/
structure State where
  ctrl    : Ctrl
  bankA   : Bank
  bankB   : Bank
  lanes   : Vector Lane 4
  samples : SampleTable
  limits  : Vector SlotConfig 64
  alerts  : AlertQueue
  timer   : Timebase
  events  : Events
  mirror  : Mirror
  window  : Window
  inReset : Bool
  meetings : List Meeting
  pending : List Instr
deriving DecidableEq, Repr

/-- Power-on value of an entry: every word 0000h (R20). -/
def Entry.blank : Entry := ⟨Vector.replicate 8 0⟩

/-- Both frame reports after a reset: frame 0, COMPLETE, every count 0 (R42, R48). -/
def FrameReport.afterReset : FrameReport :=
  { frame := 0, outcome := .complete, due := 0, issued := 0, completed := 0, faulted := 0,
    laneSkipped := 0, aborted := 0, gateSkipped := 0, rejected := 0 }

/-- Power-on lane configuration (R49, R73). -/
def LaneConfig.powerOn : LaneConfig :=
  { enable := false, divider := 2, clockMode := 0, lsbFirst := false, selectActiveHigh := false,
    fillBit := false, ready := .disabled, readyTimeout := 100, responseCheck := false, gap := 0,
    haltOnFault := false, loopback := false }

/-- A lane after power-on reset (R73). -/
def Lane.powerOn : Lane := { cfg := .powerOn, phase := .disabled, queue := [] }

/-- A slot record after either reset and after CLEAR_SLOT (R91, R94). -/
def Slot.cleared : Slot :=
  { value := 0, sequence := 0, status := .empty, faultKind := none, limit := .unknown,
    overwrite := false }

/-- The sample table after either reset (R94). -/
def SampleTable.afterReset : SampleTable :=
  { slots := Vector.replicate 64 Slot.cleared, latchIndex := 0, latch := Slot.cleared, selSlot := 0,
    selConsume := false }

/-- Power-on slot configuration (R95). -/
def SlotConfig.powerOn : SlotConfig :=
  { high := 0x7FFFFFFF, low := 0x80000000, hysteresis := 0, limitEnable := false, highAlert := false,
    lowAlert := false, returnAlert := false, faultAlert := false, watch := false }

/-- The empty marker: kind NONE, slot 0, sequence 0, value 0, the serial that comes next (R101). -/
def AlertRecord.emptyMarker (next : Byte) : AlertRecord :=
  { serial := next, kind := .none, slot := 0, sequence := 0, value := 0 }

/-- The alert queue after either reset (R111). -/
def AlertQueue.afterReset : AlertQueue :=
  { records := [], nextSerial := 0, lost := false, hostLatch := .emptyMarker 0, hostAck := .none }

/-- The scan controller after power-on reset (R48, R20). -/
def Ctrl.powerOn : Ctrl :=
  { state := .stopped, walker := .idle, position := 0, window := none, frame := 0,
    stopPending := false, deferred := false, abortMark := false, commitPending := false, active := .a,
    current := .afterReset, last := .afterReset, schedError := none, schedRepeat := false,
    overruns := 0 }

/-- The timebase after power-on reset (R122); FTRIG sampled low (log entry 11). -/
def Timebase.powerOn : Timebase :=
  { divider := 40, tickLength := 40, tickPhase := 0, mode := .off, fallingEdge := false,
    deferPolicy := false, counting := false, period := 1000, count := 0, ftrig := false }

/-- The event controller after power-on reset (R142). -/
def Events.powerOn : Events :=
  { sources := Vector.replicate 16 { masked := true, level := 1 }, edges := 0, stack := [],
    threshold := 0, irqActiveHigh := false }

/-- The mirror port after power-on reset (R158); the fields that no reader sees start at zero (log
entry 24). -/
def Mirror.powerOn : Mirror :=
  { cfg := { enable := false, clockMode := 0 }, inForce := { enable := false, clockMode := 0 },
    transaction := .idle, bitCount := 0, command := 0, argument := 0, status := .ok, latch := .zeros,
    records := 0, mclk := false, inPeriod := false, mdo := none, mselAsserted := false, note := 0,
    unread := false, overwrite := false, error := none, errorRepeat := false }

/-- The host window after power-on reset (R174). -/
def Window.powerOn : Window :=
  { tableSel := .staged, tableAddr := 0, cmdArg := 0, result := .accepted, resultIndex := 0,
    accessError := none, accessRepeat := false, lastRead := none }

/-- The machine right after power-on reset, RESET released, nothing waiting. -/
def State.reset : State :=
  { ctrl := .powerOn, bankA := Vector.replicate 64 Entry.blank, bankB := Vector.replicate 64 Entry.blank,
    lanes := Vector.replicate 4 Lane.powerOn, samples := .afterReset,
    limits := Vector.replicate 64 SlotConfig.powerOn, alerts := .afterReset, timer := .powerOn,
    events := .powerOn, mirror := .powerOn, window := .powerOn, inReset := false, meetings := []
    pending := [] }

end Sys2Proof.Machine
end

