-- ==== Sys2Proof/Machine/Operands.lean ====
section
/-! DEFINITION. Layouts: where each field lies in its word or byte (chapter 11). Words are built from
their most significant field down. -/

namespace Sys2Proof.Machine

/-! ### Bits -/

/-- The `n` bits of a word from bit `lo` up. -/
def field (w : Word) (lo n : Nat) : BitVec n := w.extractLsb' lo n

/-- One flag as a field of width 1. -/
def flag (b : Bool) : BitVec 1 := BitVec.ofBool b

/-- A 32-bit field from its high and low words. -/
def joinWords (hi lo : Word) : Value := hi ++ lo

/-- Bits 15–0 of a 32-bit field. -/
def lowWord (v : Value) : Word := v.extractLsb' 0 16

/-- Bits 31–16 of a 32-bit field. -/
def highWord (v : Value) : Word := v.extractLsb' 16 16

/-! ### Schedule entries (tables 0 and 1) -/

/-- Word k of an entry. -/
def Entry.word (e : Entry) (k : Fin 8) : Word := e.words[k]

/-- The entry with word k replaced. -/
def Entry.setWord (e : Entry) (k : Fin 8) (w : Word) : Entry := ⟨e.words.set k.val w k.isLt⟩

/-- The kind named by a kind code, none for the undefined codes 6 and 7 (R8). -/
def kindOfCode (c : BitVec 3) : Option EntryKind :=
  match c.toNat with
  | 0 => some .empty
  | 1 => some .exchange
  | 2 => some .write
  | 3 => some .gate
  | 4 => some .pause
  | 5 => some .endWalk
  | _ => none

def Entry.kind (e : Entry) : Option EntryKind := kindOfCode (field (e.word 0) 0 3)
def Entry.rate (e : Entry) : BitVec 3 := field (e.word 0) 3 3
def Entry.phase (e : Entry) : BitVec 7 := field (e.word 0) 6 7
def Entry.waitReady (e : Entry) : Bool := (e.word 0).getLsbD 13
def Entry.select (e : Entry) : BitVec 2 := field (e.word 0) 14 2
def Entry.lane (e : Entry) : Fin 4 := (field (e.word 1) 0 2).toFin
def Entry.outLen (e : Entry) : BitVec 6 := field (e.word 1) 2 6
def Entry.inLen (e : Entry) : BitVec 6 := field (e.word 1) 8 6
def Entry.extSigned (e : Entry) : Bool := (e.word 1).getLsbD 15
def Entry.outWord (e : Entry) : Value := joinWords (e.word 3) (e.word 2)
def Entry.slot (e : Entry) : Fin 64 := (field (e.word 4) 0 6).toFin
def Entry.extShift (e : Entry) : BitVec 5 := field (e.word 4) 6 5
/-- The field holds the width less one (R179). -/
def Entry.extWidth (e : Entry) : Nat := (field (e.word 4) 11 5).toNat + 1
/-- In a GATE the top four bits of out_word (R179). -/
def Entry.skip (e : Entry) : BitVec 4 := field (e.word 3) 12 4
def Entry.duration (e : Entry) : Word := e.word 4
def Entry.gateMask (e : Entry) : Value := joinWords (e.word 5) (e.word 4)
def Entry.gateMatch (e : Entry) : Value := joinWords (e.word 7) (e.word 6)

/-- The item kind of an entry that can be issued; EMPTY and END never are (R30). -/
def EntryKind.itemKind : EntryKind → Option ItemKind
  | .empty => none
  | .exchange => some .exchange
  | .write => some .write
  | .gate => some .gate
  | .pause => some .pause
  | .endWalk => none

/-! ### Table addresses -/

/-- The record that word address `a` of a table with eight words a record lies in. -/
def recordOf (a : Word) : Fin 64 := (field a 3 6).toFin

/-- The word within that record. -/
def wordOf (a : Word) : Fin 8 := (field a 0 3).toFin

/-- Word `a` of a bank (R12). -/
def Bank.word (b : Bank) (a : Word) : Word := (b[recordOf a]).word (wordOf a)

/-- The bank with word `a` replaced, every other word as it was (R13). -/
def Bank.setWord (b : Bank) (a w : Word) : Bank :=
  b.set (recordOf a).val ((b[recordOf a]).setWord (wordOf a) w) (recordOf a).isLt

/-! ### Slot configuration (table 2) -/

/-- Word k of a slot configuration. -/
def SlotConfig.word (c : SlotConfig) (k : Fin 8) : Word :=
  match k.val with
  | 0 => lowWord c.high
  | 1 => highWord c.high
  | 2 => lowWord c.low
  | 3 => highWord c.low
  | 4 => lowWord c.hysteresis
  | 5 => highWord c.hysteresis
  | 6 => 0#10 ++ flag c.watch ++ flag c.faultAlert ++ flag c.returnAlert ++ flag c.lowAlert ++
      flag c.highAlert ++ flag c.limitEnable
  | _ => 0

/-- The slot configuration after a write of word k, none where the write is refused with BAD_VALUE
(R96). -/
def SlotConfig.setWord (c : SlotConfig) (k : Fin 8) (w : Word) : Option SlotConfig :=
  match k.val with
  | 0 => some { c with high := joinWords (highWord c.high) w }
  | 1 => some { c with high := joinWords w (lowWord c.high) }
  | 2 => some { c with low := joinWords (highWord c.low) w }
  | 3 => some { c with low := joinWords w (lowWord c.low) }
  | 4 => some { c with hysteresis := joinWords (highWord c.hysteresis) w }
  | 5 => if w.getLsbD 15 then none else some { c with hysteresis := joinWords w (lowWord c.hysteresis) }
  | 6 => some { c with
      limitEnable := w.getLsbD 0, highAlert := w.getLsbD 1, lowAlert := w.getLsbD 2,
      returnAlert := w.getLsbD 3, faultAlert := w.getLsbD 4, watch := w.getLsbD 5 }
  | _ => some c

/-! ### Lane configuration (table 3) -/

def ReadyInput.code : ReadyInput → BitVec 2
  | .disabled => 0
  | .activeHigh => 1
  | .activeLow => 2

/-- The setting named by a ready-input code; code 3 is unused (R51). -/
def readyInputOfCode (c : BitVec 2) : Option ReadyInput :=
  match c.toNat with
  | 0 => some .disabled
  | 1 => some .activeHigh
  | 2 => some .activeLow
  | _ => none

/-- Word k of a lane configuration. -/
def LaneConfig.word (c : LaneConfig) (k : Fin 4) : Word :=
  match k.val with
  | 0 => 0#6 ++ c.ready.code ++ flag c.haltOnFault ++ flag c.responseCheck ++ flag c.loopback ++
      flag c.fillBit ++ flag c.selectActiveHigh ++ flag c.lsbFirst ++ c.clockMode
  | 1 => 0#4 ++ c.readyTimeout
  | 2 => 0#8 ++ c.gap
  | _ => flag c.enable ++ 0#4 ++ c.divider

/-- The clock dividers that R49 admits: 2 to 1024, even. -/
def dividerValid (d : BitVec 11) : Bool :=
  decide (2 ≤ d.toNat) && decide (d.toNat ≤ 1024) && decide (d.toNat % 2 = 0)

/-- The lane configuration after a write of word k, none where the write is refused with BAD_VALUE
(R51). -/
def LaneConfig.setWord (c : LaneConfig) (k : Fin 4) (w : Word) : Option LaneConfig :=
  match k.val with
  | 0 => (readyInputOfCode (field w 8 2)).map fun r => { c with
      clockMode := field w 0 2, lsbFirst := w.getLsbD 2, selectActiveHigh := w.getLsbD 3,
      fillBit := w.getLsbD 4, loopback := w.getLsbD 5, responseCheck := w.getLsbD 6,
      haltOnFault := w.getLsbD 7, ready := r }
  | 1 => if field w 0 12 = 0 then none else some { c with readyTimeout := field w 0 12 }
  | 2 => some { c with gap := field w 0 8 }
  | _ => if dividerValid (field w 0 11) then
      some { c with divider := field w 0 11, enable := w.getLsbD 15 } else none

/-! ### Event-source configuration (table 4) -/

def SourceConfig.word (c : SourceConfig) : Word := 0#9 ++ c.level ++ 0#3 ++ flag c.masked

/-- The source configuration that a word gives, none for level 0 (R124). -/
def sourceConfigOfWord (w : Word) : Option SourceConfig :=
  if field w 4 3 = 0 then none else some { masked := w.getLsbD 0, level := field w 4 3 }

/-! ### Frame reports (table 5) -/

def FrameOutcome.code : FrameOutcome → BitVec 2
  | .inProgress => 0
  | .complete => 1
  | .aborted => 2

/-- A count in its seven-bit place. -/
def countField (n : Nat) : BitVec 7 := BitVec.ofNat 7 n

/-- Two counts in bits 14–8 and 6–0. -/
def countPair (hi lo : Nat) : Word := 0#1 ++ countField hi ++ 0#1 ++ countField lo

/-- Word k of a frame report. -/
def FrameReport.word (r : FrameReport) (k : Fin 8) : Word :=
  match k.val with
  | 0 => r.frame
  | 1 => 0#1 ++ countField r.due ++ 0#6 ++ r.outcome.code
  | 2 => countPair r.completed r.issued
  | 3 => countPair r.laneSkipped r.faulted
  | 4 => countPair r.gateSkipped r.aborted
  | 5 => countPair 0 r.rejected
  | _ => 0

/-! ### Codes of the window registers (11.1) -/

def CtrlState.code : CtrlState → BitVec 2
  | .stopped => 0
  | .waiting => 1
  | .active => 2

def WalkerState.code : WalkerState → BitVec 3
  | .idle => 0
  | .issuing => 1
  | .heldQueue => 2
  | .heldGate => 3
  | .draining => 4

def BankName.code : BankName → BitVec 1
  | .a => 0
  | .b => 1

def CmdResult.code : CmdResult → BitVec 3
  | .accepted => 0
  | .refusedState => 1
  | .refusedArg => 2
  | .refusedBank => 3
  | .refusedCode => 4

def AccessError.code : AccessError → BitVec 4
  | .readOnlyTarget => 1
  | .tableRange => 2
  | .bankFrozen => 3
  | .configBusy => 4
  | .badValue => 5
  | .doneEmpty => 6
  | .doneMismatch => 7

def TimerMode.code : TimerMode → BitVec 2
  | .off => 0
  | .periodic => 1
  | .oneShot => 2
  | .external => 3

/-- Every code of the mode field is valid (R115). -/
def timerModeOfCode (c : BitVec 2) : TimerMode :=
  match c.toNat with
  | 0 => .off
  | 1 => .periodic
  | 2 => .oneShot
  | _ => .external

def SlotStatus.code : SlotStatus → BitVec 2
  | .empty => 0
  | .fresh => 1
  | .read => 2
  | .fault => 3

/-- Fault kind code, 0 for NONE. -/
def faultKindCode : Option FaultKind → BitVec 2
  | none => 0
  | some .readyTimeout => 1
  | some .stuckResponse => 2

def LimitState.code : LimitState → BitVec 2
  | .unknown => 0
  | .inBand => 1
  | .high => 2
  | .low => 3

def AlertKind.code : AlertKind → BitVec 3
  | .none => 0
  | .high => 1
  | .low => 2
  | .back => 3
  | .fault => 4

def AckOutcome.code : AckOutcome → BitVec 2
  | .none => 0
  | .accepted => 1
  | .stale => 2
  | .empty => 3

def LanePhase.code : LanePhase → BitVec 3
  | .disabled => 0
  | .idle => 1
  | .readyWait _ _ => 2
  | .shifting _ => 3
  | .gap _ _ => 4
  | .pausing _ _ => 5
  | .halted => 6

def Table.code : Table → BitVec 3
  | .staged => 0
  | .active => 1
  | .slotConfig => 2
  | .laneConfig => 3
  | .sourceConfig => 4
  | .reports => 5
  | .latches => 6

/-- The table a selector value names, none for 7 or more (R163). -/
def tableOfSelector (w : Word) : Option Table :=
  match w.toNat with
  | 0 => some .staged
  | 1 => some .active
  | 2 => some .slotConfig
  | 3 => some .laneConfig
  | 4 => some .sourceConfig
  | 5 => some .reports
  | 6 => some .latches
  | _ => none

/-- The number of words of a table (9.3). -/
def Table.size : Table → Nat
  | .staged => 512
  | .active => 512
  | .slotConfig => 512
  | .laneConfig => 16
  | .sourceConfig => 16
  | .reports => 16
  | .latches => 8

/-! ### Window register words (11.1) -/

def Ctrl.stateWord (c : Ctrl) : Word :=
  0#7 ++ c.active.code ++ flag c.commitPending ++ flag c.deferred ++ flag c.stopPending ++
    c.walker.code ++ c.state.code

def Window.resultWord (w : Window) : Word :=
  0#2 ++ BitVec.ofFin (w := 6) w.resultIndex ++ 0#5 ++ w.result.code

/-- ACCESS_ERR: code NONE and every field 0 when the latch is empty (R171). -/
def Window.accessErrorWord (w : Window) : Word :=
  match w.accessError with
  | none => 0
  | some r => flag w.accessRepeat ++ 0#5 ++ flag r.isWrite ++ r.addr ++ r.error.code

/-- Access-error detail, 0 when the latch is empty (R166, R173). -/
def Window.accessDetailWord (w : Window) : Word :=
  match w.accessError with
  | none => 0
  | some r => r.tableSel.code ++ r.tableAddrLow

def Timebase.modeWord (t : Timebase) : Word :=
  flag t.counting ++ 0#11 ++ flag t.deferPolicy ++ flag t.fallingEdge ++ t.mode.code

def SampleTable.selWord (t : SampleTable) : Word :=
  flag t.selConsume ++ 0#9 ++ BitVec.ofFin (w := 6) t.selSlot

def SampleTable.statusWord (t : SampleTable) : Word :=
  0#3 ++ flag t.latch.overwrite ++ t.latch.limit.code ++ faultKindCode t.latch.faultKind ++
    t.latch.status.code ++ BitVec.ofFin (w := 6) t.latchIndex

/-- ALERT_W0 of a record. -/
def AlertRecord.word0 (r : AlertRecord) : Word :=
  0#7 ++ BitVec.ofFin (w := 6) r.slot ++ r.kind.code

/-- ALERT_CTRL (R107, R178). -/
def AlertQueue.ctrlWord (q : AlertQueue) : Word :=
  q.hostLatch.serial ++ q.hostAck.code ++ flag q.lost ++ BitVec.ofNat 5 q.records.length

def Events.threshWord (e : Events) : Word :=
  0#7 ++ flag e.irqActiveHigh ++ 0#5 ++ e.threshold

/-- EV_SERVICE: depth, top level, top source, FFh for an empty stack (R138). -/
def Events.serviceWord (e : Events) : Word :=
  match e.stack with
  | [] => 0xFF00
  | top :: _ => 0#4 ++ BitVec.ofFin (w := 4) top.source ++ 0#1 ++ top.level ++ 0#1 ++
      BitVec.ofNat 3 e.stack.length

/-- LANE_STATUS: three bits a lane, lane 0 lowest. -/
def laneStatusWord (lanes : Vector Lane 4) : Word :=
  0#4 ++ lanes[3].phase.code ++ lanes[2].phase.code ++ lanes[1].phase.code ++ lanes[0].phase.code

def MirrorConfig.word (c : MirrorConfig) : Word := 0#13 ++ c.clockMode ++ flag c.enable

/-- The mirror configuration a written word gives; every value is valid (R144). -/
def mirrorConfigOfWord (w : Word) : MirrorConfig :=
  { enable := w.getLsbD 0, clockMode := field w 1 2 }

def Mirror.noteWord (m : Mirror) : Word := 0#6 ++ flag m.overwrite ++ flag m.unread ++ m.note

/-! ### Latch words (table 6) -/

def RejectReason.code : RejectReason → BitVec 2
  | .laneDisabled => 1
  | .readyUnavailable => 2

/-- Words 0 and 1 of table 6; an empty latch reads 0000h in both (R166). -/
def Ctrl.schedErrorWord0 (c : Ctrl) : Word :=
  match c.schedError with
  | none => 0
  | some e => e.frame

def Ctrl.schedErrorWord1 (c : Ctrl) : Word :=
  match c.schedError with
  | none => 0
  | some e => flag c.schedRepeat ++ 0#5 ++ e.reason.code ++ 0#2 ++ BitVec.ofFin (w := 6) e.index

def MirrorError.code : MirrorError → BitVec 2
  | .incomplete => 1
  | .unknown => 2
  | .refused => 3

/-- Word 2 of table 6; an empty latch reads 0000h (R166). R156, R166 and 11.2 give the command-byte field
no value where the error has no command byte: that it reads 00h then is the model's choice (log entry
33). -/
def Mirror.errorWord (m : Mirror) : Word :=
  match m.error with
  | none => 0
  | some e => e.command.getD 0 ++ 0#4 ++ flag m.errorRepeat ++ flag e.command.isSome ++ e.error.code

/-! ### Mirror bytes (11.3) -/

def MirrorStatus.code : MirrorStatus → Byte
  | .ok => 0x10
  | .refused => 0x11
  | .unknown => 0x12
  | .accepted => 0x20
  | .stale => 0x21
  | .empty => 0x22

/-- Byte k of a 32-bit field sent most significant byte first. -/
def valueByte (v : Value) (k : Nat) : Byte := v.extractLsb' (8 * (3 - k)) 8

/-- Byte k of a 16-bit field sent most significant byte first. -/
def wordByte (w : Word) (k : Nat) : Byte := w.extractLsb' (8 * (1 - k)) 8

/-- Byte k of the slot record (R149). -/
def slotRecordByte (index : Fin 64) (r : Slot) (k : Nat) : Byte :=
  match k with
  | 0 => 0#2 ++ BitVec.ofFin (w := 6) index
  | 1 => valueByte r.value 0
  | 2 => valueByte r.value 1
  | 3 => valueByte r.value 2
  | 4 => valueByte r.value 3
  | 5 => wordByte r.sequence 0
  | 6 => wordByte r.sequence 1
  | 7 => 0#1 ++ flag r.overwrite ++ r.limit.code ++ faultKindCode r.faultKind ++ r.status.code
  | _ => 0

/-- Byte k of the state record (R151). -/
def StateRecord.byte (r : StateRecord) (k : Nat) : Byte :=
  match k with
  | 0 => flag r.commitPending ++ flag r.deferred ++ flag r.stopPending ++ r.walker.code ++ r.state.code
  | 1 => 0#7 ++ r.active.code
  | 2 => wordByte r.frame 0
  | 3 => wordByte r.frame 1
  | 4 => r.overruns
  | 5 => BitVec.ofNat 8 r.alertCount
  | _ => 0

/-- Byte k of the alert record (R152). -/
def AlertRecord.byte (r : AlertRecord) (k : Nat) : Byte :=
  match k with
  | 0 => r.serial
  | 1 => 0#5 ++ r.kind.code
  | 2 => 0#2 ++ BitVec.ofFin (w := 6) r.slot
  | 3 => wordByte r.sequence 0
  | 4 => wordByte r.sequence 1
  | 5 => valueByte r.value 0
  | 6 => valueByte r.value 1
  | 7 => valueByte r.value 2
  | 8 => valueByte r.value 3
  | _ => 0

/-- Byte k of the mirror record latch. -/
def MirrorRecord.byte (r : MirrorRecord) (k : Nat) : Byte :=
  match r with
  | .zeros => 0
  | .slot i s => slotRecordByte i s k
  | .state t => t.byte k
  | .alert a => a.byte k

end Sys2Proof.Machine
end

