-- ==== Sys2Proof/Machine/Flags.lean ====
section
/-! DEFINITION. The event controller (chapter 7): the pending set, eligibility, IRQ, claim and done;
and the access-error latch with its raise (9.5). -/

namespace Sys2Proof.Machine

/-! ### Sources (R123) -/

/-- LANE0_FAULT to LANE3_FAULT are sources 0 to 3. -/
def laneFaultSource (n : Fin 4) : Fin 16 := n.castLE (by decide)
abbrev srcFrameStart : Fin 16 := 4
abbrev srcFrameEnd : Fin 16 := 5
abbrev srcFrameOverrun : Fin 16 := 6
abbrev srcBankSwap : Fin 16 := 7
abbrev srcAlertReady : Fin 16 := 8
abbrev srcAlertLost : Fin 16 := 9
abbrev srcSampleOverwrite : Fin 16 := 10
abbrev srcMirrorNote : Fin 16 := 11
abbrev srcScheduleError : Fin 16 := 12
abbrev srcAccessError : Fin 16 := 13
abbrev srcSoftware : Fin 16 := 14
abbrev srcControllerStopped : Fin 16 := 15

/-- The sixteen sources, lowest number first. -/
def allSources : List (Fin 16) := [0, 1, 2, 3, 4, 5, 6, 7, 8, 9, 10, 11, 12, 13, 14, 15]

/-! ### Raises and the pending set -/

/-- The word with bit `n` set. -/
def setBit (w : Word) (n : Fin 16) : Word := w ||| BitVec.twoPow 16 n.val

/-- The word with bit `n` clear. -/
def clearBit (w : Word) (n : Fin 16) : Word := w &&& ~~~ (BitVec.twoPow 16 n.val)

/-- An edge raise: an unmasked source becomes or stays pending, a masked one's raise is discarded
(R125). -/
def Events.raise (e : Events) (n : Fin 16) : Events :=
  if (e.sources[n]).masked then e else { e with edges := setBit e.edges n }

/-- The raise of a source at the event controller. -/
def raise (n : Fin 16) (s : State) : State := { s with events := s.events.raise n }

/-- The state with only those edge sources of its pending set that `kept` names. -/
def keepEdges (kept : Word) (s : State) : State :=
  { s with events := { s.events with edges := s.events.edges &&& kept } }

/-- The sources that a completion raises: the lane's fault, ALERT_LOST and SAMPLE_OVERWRITE (R66, R81, R103). -/
def completionSources : Word := 0x060F

/-- Those of the sources `keep` that can be the last ones of a step to arrive. FRAME_END comes before BANK_SWAP, and
that before FRAME_START and CONTROLLER_STOPPED, so the earlier is among the last only with all later ones (R175,
R176); the name of a source that the step does not raise says nothing. -/
def inRaiseOrder (keep : Word) : Word :=
  let ends := keep.getLsbD srcFrameStart.val && keep.getLsbD srcControllerStopped.val
  let fromSwap := if ends then keep else clearBit keep srcBankSwap
  if fromSwap.getLsbD srcBankSwap.val then fromSwap else clearBit fromSwap srcFrameEnd

/-- The source is on the service stack. -/
def Events.inService (e : Events) (n : Fin 16) : Bool := e.stack.any fun x => x.source == n

/-- The ALERT_READY condition: the queue holds at least one record (R104). -/
def AlertQueue.ready (q : AlertQueue) : Bool := !q.records.isEmpty

/-- ALERT_READY is pending while its condition holds, it is unmasked, and it is not in service
(R126). -/
def alertReadyPending (s : State) : Bool :=
  s.alerts.ready && !(s.events.sources[srcAlertReady]).masked && !s.events.inService srcAlertReady

/-- The source is in the pending set (R125, R126). -/
def isPending (s : State) (n : Fin 16) : Bool :=
  if n = srcAlertReady then alertReadyPending s else s.events.edges.getLsbD n.val

/-- EV_PENDING: one flag a source (R138). -/
def pendingWord (s : State) : Word :=
  if alertReadyPending s then setBit s.events.edges srcAlertReady
  else clearBit s.events.edges srcAlertReady

/-! ### Priority, eligibility, IRQ -/

/-- The level of the top stack entry, 0 for an empty stack (R129). -/
def Events.topLevel (e : Events) : Nat :=
  match e.stack with
  | [] => 0
  | top :: _ => top.level.toNat

/-- The larger of the threshold and the top entry's level (R129). -/
def Events.currentPriority (e : Events) : Nat := max e.threshold.toNat e.topLevel

/-- A pending source that is unmasked and whose level is above the current priority (R129). -/
def isEligible (s : State) (n : Fin 16) : Bool :=
  isPending s n && !(s.events.sources[n]).masked &&
    decide (s.events.currentPriority < (s.events.sources[n]).level.toNat)

/-- IRQ is active exactly when an eligible source exists (R130). -/
def irqActive (s : State) : Bool := allSources.any (isEligible s)

/-- The level of the IRQ pin: by the polarity, and held high during power-on reset (R130). -/
def irqPin (s : State) : Bool :=
  if s.inReset then true else if s.events.irqActiveHigh then irqActive s else !irqActive s

/-! ### Claim and done -/

/-- The better of the best source so far and the next one: the next only where its level is higher, so
that of equal levels the lowest number stands (R132). -/
def betterSource (s : State) (best : Option (Fin 16)) (n : Fin 16) : Option (Fin 16) :=
  if isEligible s n then
    match best with
    | none => some n
    | some b => if (s.events.sources[b]).level.toNat < (s.events.sources[n]).level.toNat then some n else some b
  else best

/-- The eligible source with the highest level, of those the one with the lowest number (R132). -/
def bestEligible (s : State) : Option (Fin 16) := allSources.foldl (betterSource s) none

/-- The source leaves the pending set and its entry goes on top of the stack at its configured level
(R132, R128). ALERT_READY leaves by its service rule (R126). -/
def Events.takeIntoService (e : Events) (n : Fin 16) : Events :=
  { e with edges := clearBit e.edges n
           stack := { source := n, level := (e.sources[n]).level } :: e.stack }

/-- The word that a read of EV_CLAIM returns: the source number, or FFh (R132, R133). -/
def claimWord (s : State) : Word :=
  match bestEligible s with
  | none => 0xFF
  | some n => BitVec.ofNat 16 n.val

/-- A claim (R132); with no eligible source it changes nothing (R133). -/
def claim (s : State) : State :=
  match bestEligible s with
  | none => s
  | some n => { s with events := s.events.takeIntoService n }

/-! ### Access errors (9.5) -/

/-- A refused access is recorded in an empty latch, or sets the repeat flag, and raises ACCESS_ERROR
(R171). -/
def accessError (err : AccessError) (addr : BitVec 5) (isWrite : Bool) (s : State) : State :=
  let w := s.window
  let latched : Window :=
    match w.accessError with
    | none => { w with
        accessError := some {
          error := err, addr := addr, isWrite := isWrite, tableSel := w.tableSel
          tableAddrLow := w.tableAddr.extractLsb' 0 13 }
        accessRepeat := false }
    | some _ => { w with accessRepeat := true }
  raise srcAccessError { s with window := latched }

/-- A host write refused at address `addr`. -/
def refuseWrite (err : AccessError) (addr : BitVec 5) (s : State) : State := accessError err addr true s

/-- What a host write of EV_DONE does (R135). -/
def writeDone (v : Word) (s : State) : State :=
  match s.events.stack with
  | [] => refuseWrite .doneEmpty 0x18 s
  | top :: rest =>
    if v.toNat = top.source.val then { s with events := { s.events with stack := rest } }
    else refuseWrite .doneMismatch 0x18 s

end Sys2Proof.Machine
end

