-- ==== Sys2Proof/Machine/Ops.lean ====
section
/-! DEFINITION. The named operations of the blocks: sample table, limit monitor and alert queue, banks,
lanes, walker, frames, triggers. Each is what its owner does when it takes one request whole. -/

namespace Sys2Proof.Machine

/-! ### Alert queue (5.3, 5.4) -/

/-- A post: appended with the next serial where fewer than sixteen records wait (R102); otherwise
dropped, the lost flag set and ALERT_LOST raised (R103). -/
def postAlert (kind : AlertKind) (slot : Fin 64) (sequence : Word) (value : Value) (s : State) : State :=
  let q := s.alerts
  if q.records.length < Config.alertDepth then
    { s with alerts := { q with
        records := q.records ++
          [{ serial := q.nextSerial, kind := kind, slot := slot, sequence := sequence, value := value }]
        nextSerial := q.nextSerial + 1 } }
  else raise srcAlertLost { s with alerts := { q with lost := true } }

/-- The head record, or the empty marker with the next serial (R101, R105). -/
def AlertQueue.look (q : AlertQueue) : AlertRecord := q.records.headD (.emptyMarker q.nextSerial)

/-- The outcome of an acknowledgement that names `serial` (R106). -/
def AlertQueue.ackOutcome (q : AlertQueue) (serial : Byte) : AckOutcome :=
  match q.records with
  | [] => .empty
  | head :: _ => if head.serial = serial then .accepted else .stale

/-- The queue after that acknowledgement: the head goes where it is accepted (R106). -/
def AlertQueue.acknowledge (q : AlertQueue) (serial : Byte) : AlertQueue :=
  match q.records with
  | [] => q
  | head :: rest => if head.serial = serial then { q with records := rest } else q

/-! ### Limit evaluation (5.2) -/

/-- high − hysteresis, not below −2147483648 (R98). -/
def SlotConfig.returnFromHigh (c : SlotConfig) : Int :=
  max (c.high.toInt - c.hysteresis.toInt) (-2147483648)

/-- low + hysteresis, not above 2147483647 (R98). -/
def SlotConfig.returnFromLow (c : SlotConfig) : Int :=
  min (c.low.toInt + c.hysteresis.toInt) 2147483647

/-- The new limit state and the alert kind selected, `none` where none is (R98). -/
def evaluateLimit (c : SlotConfig) (before : LimitState) (v : Value) : LimitState × AlertKind :=
  if c.limitEnable then
    match before with
    | .unknown | .inBand =>
      if c.high.toInt < v.toInt then (.high, .high)
      else if v.toInt < c.low.toInt then (.low, .low)
      else (.inBand, .none)
    | .high =>
      if v.toInt < c.low.toInt then (.low, .low)
      else if v.toInt ≤ c.returnFromHigh then (.inBand, .back)
      else (.high, .none)
    | .low =>
      if c.high.toInt < v.toInt then (.high, .high)
      else if c.returnFromLow ≤ v.toInt then (.inBand, .back)
      else (.low, .none)
  else (.unknown, .none)

/-- The slot's enable for an alert kind (R95, R99). -/
def SlotConfig.alertEnabled (c : SlotConfig) : AlertKind → Bool
  | .none => false
  | .high => c.highAlert
  | .low => c.lowAlert
  | .back => c.returnAlert
  | .fault => c.faultAlert

/-- An alert of the selected kind is posted where its enable is on (R99, R100). -/
def postIfEnabled (kind : AlertKind) (slot : Fin 64) (sequence : Word) (value : Value) (s : State) : State :=
  if (s.limits[slot]).alertEnabled kind then postAlert kind slot sequence value s else s

/-! ### Sample table (chapter 4) -/

/-- The mask of the low `w` bits of a value. -/
def lowMask (w : Nat) : Value := BitVec.ofNat 32 (2 ^ w - 1)

/-- The field of `width` bits from bit `shift` of the response, sign- or zero-extended (R78). -/
def extractField (response : Value) (shift width : Nat) (signed : Bool) : Value :=
  let f := (response >>> shift) &&& lowMask width
  if signed && f.getLsbD (width - 1) then f ||| ~~~ (lowMask width) else f

/-- The table with one slot record replaced. -/
def SampleTable.setSlot (t : SampleTable) (i : Fin 64) (r : Slot) : SampleTable :=
  { t with slots := t.slots.set i.val r i.isLt }

/-- The state with one slot record replaced; no other slot is reached (R77). -/
def setSlot (i : Fin 64) (r : Slot) (s : State) : State := { s with samples := s.samples.setSlot i r }

/-- Steps 2 to 4 of a DONE completion at slot `i` with the extracted value `v` (R80, R81, R98, R99). -/
def storeSample (i : Fin 64) (v : Value) (sequence : Word) (s : State) : State :=
  let old := s.samples.slots[i]
  let c := s.limits[i]
  let lostUnread := c.watch && decide (old.status = .fresh)
  let verdict := evaluateLimit c old.limit v
  let new : Slot :=
    { value := v, sequence := sequence, status := .fresh, faultKind := none, limit := verdict.1
      overwrite := old.overwrite || lostUnread }
  let raised := if lostUnread then raise srcSampleOverwrite s else s
  postIfEnabled verdict.2 i sequence v (setSlot i new raised)

/-- A FAULT completion at slot `i` (R82, R100). -/
def faultSample (i : Fin 64) (kind : FaultKind) (s : State) : State :=
  let old := s.samples.slots[i]
  postIfEnabled .fault i old.sequence old.value
    (setSlot i { old with status := .fault, faultKind := some kind } s)

/-- An EXCHANGE completion at the sample table (R80, R82, R83). -/
def sampleTake (it : Item) (o : ItemOutcome) (s : State) : State :=
  match o with
  | .completed response =>
    storeSample it.slot (extractField response it.extShift.toNat it.extWidth it.extSigned) it.frame s
  | .fault kind => faultSample it.slot kind s
  | .skipped => s
  | .aborted => s

/-- The record after a host consume: FRESH becomes READ, the overwrite flag is cleared (R87). -/
def Slot.consumed (r : Slot) : Slot :=
  { r with status := if r.status = .fresh then .read else r.status, overwrite := false }

/-- The record of slot `i` goes into the host sample latch (R86). -/
def SampleTable.snapshot (t : SampleTable) (i : Fin 64) (consume : Bool) : SampleTable :=
  { t with latchIndex := i, latch := t.slots[i], selSlot := i, selConsume := consume }

/-! ### Banks (chapter 1) -/

def BankName.other : BankName → BankName
  | .a => .b
  | .b => .a

/-- The bank the walker reads (R11). -/
def activeBank (s : State) : Bank :=
  match s.ctrl.active with
  | .a => s.bankA
  | .b => s.bankB

/-- The bank the host writes (R11). -/
def stagedBank (s : State) : Bank :=
  match s.ctrl.active with
  | .a => s.bankB
  | .b => s.bankA

/-- The state with the staged bank replaced. -/
def setStagedBank (b : Bank) (s : State) : State :=
  match s.ctrl.active with
  | .a => { s with bankB := b }
  | .b => { s with bankA := b }

/-- The checks that apply to an entry of the given kind (R14). -/
def entryChecks (e : Entry) : EntryKind → Bool
  | .empty => true
  | .endWalk => true
  | .exchange =>
    decide (e.outLen.toNat ≤ 32) && decide (1 ≤ e.inLen.toNat) && decide (e.inLen.toNat ≤ 32) &&
      decide (e.extShift.toNat + e.extWidth ≤ e.inLen.toNat) && decide (e.phase.toNat < 2 ^ e.rate.toNat)
  | .write =>
    decide (e.outLen.toNat ≤ 32) && decide (e.inLen.toNat = 0) &&
      decide (1 ≤ e.outLen.toNat + e.inLen.toNat) && decide (e.phase.toNat < 2 ^ e.rate.toNat)
  | .gate =>
    decide (e.outLen.toNat ≤ 32) && decide (1 ≤ e.inLen.toNat) && decide (e.inLen.toNat ≤ 32) &&
      decide (e.phase.toNat < 2 ^ e.rate.toNat) && decide (1 ≤ e.skip.toNat)
  | .pause => decide (e.phase.toNat < 2 ^ e.rate.toNat) && decide (1 ≤ e.duration.toNat)

/-- The entry passes structural validation (R14). -/
def entryValid (e : Entry) : Bool :=
  match e.kind with
  | none => false
  | some k => entryChecks e k

/-- The sixty-four entry indices, in order. -/
def allEntries : List (Fin 64) := List.finRange 64

/-- The lowest entry that fails validation, none for a sound bank (R14). -/
def firstInvalid (b : Bank) : Option (Fin 64) := allEntries.find? fun i => !entryValid b[i]

/-- A swap: the selector changes, commit_pending clears, BANK_SWAP is raised; no entry is copied
(R16). -/
def swapBanks (s : State) : State :=
  raise srcBankSwap
    { s with ctrl := { s.ctrl with active := s.ctrl.active.other, commitPending := false } }

/-- The swap of a pending commit, where there is one (R27, R41). -/
def swapIfPending (s : State) : State := if s.ctrl.commitPending then swapBanks s else s

/-! ### Completions (R36 to R39, R66) -/

/-- The report with a completion counted under its outcome (R39). -/
def FrameReport.countOutcome (r : FrameReport) : ItemOutcome → FrameReport
  | .completed _ => { r with completed := r.completed + 1 }
  | .fault _ => { r with faulted := r.faulted + 1 }
  | .skipped => { r with laneSkipped := r.laneSkipped + 1 }
  | .aborted => { r with aborted := r.aborted + 1 }

/-- The walker goes on to the next index; past index 63 the walk finishes (R30). -/
def Ctrl.advance (c : Ctrl) : Ctrl :=
  if h : c.position.val + 1 < 64 then { c with walker := .issuing, position := ⟨c.position.val + 1, h⟩ }
  else { c with walker := .draining }

/-- The window of a gate that failed at index `g`, cut off at 63, empty at 63 (R37). -/
def skipWindow (g : Fin 64) (skip : Nat) : Option SkipWindow :=
  if h : g.val + 1 < 64 then
    some { first := ⟨g.val + 1, h⟩, last := ⟨min (g.val + skip) 63, by omega⟩ }
  else none

/-- The index lies in the skip window (R31). -/
def Ctrl.inWindow (c : Ctrl) (i : Fin 64) : Bool :=
  match c.window with
  | none => false
  | some w => decide (w.first ≤ i) && decide (i ≤ w.last)

/-- A gate passes on DONE with the masked response equal to the masked match value (R6, R36). -/
def gatePasses (e : Entry) : ItemOutcome → Bool
  | .completed response => decide (response &&& e.gateMask = e.gateMatch &&& e.gateMask)
  | .fault _ => false
  | .skipped => false
  | .aborted => false

/-- The walker holds for this gate. -/
def awaitsGate (c : Ctrl) (it : Item) : Bool :=
  decide (it.kind = .gate) && decide (c.walker = .heldGate) && decide (c.position = it.index)

/-- The walker after the completion of a gate it holds for: a fail opens the window, and it returns to
ISSUING at the next index (R36). -/
def judgeGate (e : Entry) (o : ItemOutcome) (c : Ctrl) : Ctrl :=
  if gatePasses e o then c.advance
  else { c with window := skipWindow c.position e.skip.toNat }.advance

/-- The scan controller takes a completion: counted, and a gate judged (R36, R39). -/
def ctrlTake (it : Item) (o : ItemOutcome) (s : State) : State :=
  let counted := { s.ctrl with current := s.ctrl.current.countOutcome o }
  { s with ctrl :=
      if awaitsGate s.ctrl it then judgeGate (activeBank s)[it.index] o counted else counted }

/-- The lane's fault source, raised by a FAULT (R66). -/
def raiseLaneFault (n : Fin 4) (o : ItemOutcome) (s : State) : State :=
  match o with
  | .fault _ => raise (laneFaultSource n) s
  | .completed _ => s
  | .skipped => s
  | .aborted => s

/-- Lane `n` hands a completion on: sample table for an EXCHANGE, then the fault raise, then the scan
controller (R66). -/
def complete (n : Fin 4) (it : Item) (o : ItemOutcome) (s : State) : State :=
  ctrlTake it o (raiseLaneFault n o (if it.kind = .exchange then sampleTake it o s else s))

/-! ### Lanes (chapter 3) -/

/-- The state with lane `n` replaced. -/
def setLane (n : Fin 4) (l : Lane) (s : State) : State := { s with lanes := s.lanes.set n.val l n.isLt }

/-- The item in progress on a lane. -/
def LanePhase.item : LanePhase → Option Item
  | .disabled => none
  | .idle => none
  | .readyWait it _ => some it
  | .shifting it => some it
  | .gap it _ => some it
  | .pausing it _ => some it
  | .halted => none

/-- The items a lane holds: in progress, then waiting. -/
def Lane.items (l : Lane) : List Item := l.phase.item.toList ++ l.queue

/-- How an IDLE lane begins an item (R55); in loopback the ready input reads active (R64). -/
def beginItem (c : LaneConfig) (it : Item) : LanePhase :=
  match it.kind with
  | .pause => .pausing it 0
  | .exchange | .write | .gate =>
    if it.waitReady && !c.loopback then .readyWait it 0 else .shifting it

/-- An IDLE lane takes the head of its queue (R54). -/
def Lane.takeHead (l : Lane) : Lane :=
  match l.phase, l.queue with
  | .idle, it :: rest => { l with phase := beginItem l.cfg it, queue := rest }
  | _, _ => l

/-- Items complete one after another with the same outcome, from the head (R67, R70). -/
def completeAll (n : Fin 4) (o : ItemOutcome) (items : List Item) (s : State) : State :=
  items.foldl (fun t it => complete n it o t) s

/-- A lane that is IDLE takes its head item; one that is HALTED completes each waiting item SKIPPED
(R54, R67). -/
def settleLane (n : Fin 4) (s : State) : State :=
  let l := s.lanes[n]
  match l.phase with
  | .halted => completeAll n .skipped l.queue (setLane n { l with queue := [] } s)
  | _ => setLane n l.takeHead s

/-- An item enters the queue of lane `n` at the tail, and the lane settles (R34, R54, R67). -/
def enqueue (n : Fin 4) (it : Item) (s : State) : State :=
  let l := s.lanes[n]
  settleLane n (setLane n { l with queue := l.queue ++ [it] } s)

/-- Where the lane goes when its item has ended (R62, R66, R67). -/
def phaseAfter (c : LaneConfig) : ItemOutcome → LanePhase
  | .fault _ => if c.haltOnFault then .halted else .idle
  | .completed _ => .idle
  | .skipped => .idle
  | .aborted => .idle

/-- No lane holds an item, waiting or in progress (R38). -/
def lanesEmpty (s : State) : Bool := s.lanes.toList.all fun l => l.items.isEmpty

/-- One lane takes an abort request: the item in progress and then each waiting item complete ABORTED,
and the lane enters IDLE; a DISABLED or HALTED lane is unaffected (R70). -/
def abortLane (s : State) (n : Fin 4) : State :=
  let l := s.lanes[n]
  match l.phase with
  | .disabled => s
  | .halted => s
  | _ => completeAll n .aborted l.items (setLane n { l with phase := .idle, queue := [] } s)

/-- The four lanes. -/
def allLanes : List (Fin 4) := [0, 1, 2, 3]

/-! ### The walk (2.4) -/

/-- The entry is due in the frame (R9). -/
def entryDue (e : Entry) (frame : Word) : Bool := decide (frame.toNat % 2 ^ e.rate.toNat = e.phase.toNat)

/-- The item made of an entry (R34). -/
def makeItem (i : Fin 64) (k : ItemKind) (e : Entry) (frame : Word) : Item :=
  { index := i, kind := k, select := e.select, waitReady := e.waitReady, outLen := e.outLen
    outWord := e.outWord, inLen := e.inLen, slot := e.slot, extShift := e.extShift
    extWidth := e.extWidth, extSigned := e.extSigned, duration := e.duration, frame := frame }

/-- Why the runtime checks reject the entry, none where it passes (R32). -/
def rejectReason (c : LaneConfig) (k : ItemKind) (e : Entry) : Option RejectReason :=
  if !c.enable then some .laneDisabled
  else if decide (k ≠ .pause) && e.waitReady && decide (c.ready = .disabled) then some .readyUnavailable
  else none

/-- The schedule-error latch takes a rejection, or sets its repeat flag (R33). -/
def Ctrl.recordRejection (c : Ctrl) (why : RejectReason) : Ctrl :=
  match c.schedError with
  | none => { c with
      schedError := some { frame := c.frame, index := c.position, reason := why }, schedRepeat := false }
  | some _ => { c with schedRepeat := true }

/-- The entry at the position is rejected: counted, latched, raised; a GATE counts as failed (R32). -/
def rejectEntry (k : ItemKind) (e : Entry) (why : RejectReason) (s : State) : State :=
  let c := s.ctrl.recordRejection why
  let counted := { c with
    current := { c.current with due := c.current.due + 1, rejected := c.current.rejected + 1 } }
  let judged :=
    if k = .gate then { counted with window := skipWindow counted.position e.skip.toNat } else counted
  raise srcScheduleError { s with ctrl := judged.advance }

/-- The entry at the position is issued: counted due and issued, the walker moves on or holds for the
gate, and the item enters its lane's queue (R34). -/
def issueEntry (k : ItemKind) (e : Entry) (s : State) : State :=
  let it := makeItem s.ctrl.position k e s.ctrl.frame
  let counted := { s.ctrl with
    current := { s.ctrl.current with due := s.ctrl.current.due + 1, issued := s.ctrl.current.issued + 1 } }
  let moved := if k = .gate then { counted with walker := .heldGate } else counted.advance
  enqueue e.lane it { s with ctrl := moved }

/-- A due entry outside the window: rejected, issued, or held for a full queue (R32, R34). -/
def takeDueEntry (k : ItemKind) (e : Entry) (s : State) : State :=
  let l := s.lanes[e.lane]
  match rejectReason l.cfg k e with
  | some why => rejectEntry k e why s
  | none =>
    if l.queue.length < Config.queueDepth then issueEntry k e s
    else { s with ctrl := { s.ctrl with walker := .heldQueue } }

/-- A due entry inside the window is counted due and gate_skipped (R31). -/
def countSkipped (s : State) : State :=
  { s with ctrl := { s.ctrl with
      current := { s.ctrl.current with
        due := s.ctrl.current.due + 1, gateSkipped := s.ctrl.current.gateSkipped + 1 } } }

/-- The walker goes on to the next index. -/
def passOver (s : State) : State := { s with ctrl := s.ctrl.advance }

/-- The kind as which an entry can become an item. -/
def Entry.itemKind (e : Entry) : Option ItemKind := e.kind.bind EntryKind.itemKind

/-- The walker in ISSUING takes the entry at its position (R30, R31). -/
def walkEntry (s : State) : State :=
  let e := (activeBank s)[s.ctrl.position]
  match e.itemKind with
  | some k =>
    if entryDue e s.ctrl.frame then
      if s.ctrl.inWindow s.ctrl.position then passOver (countSkipped s) else takeDueEntry k e s
    else passOver s
  | none =>
    if decide (e.kind = some .endWalk) && !s.ctrl.inWindow s.ctrl.position then
      { s with ctrl := { s.ctrl with walker := .draining } }
    else passOver s

/-- The walk: entry after entry while the walker is ISSUING, at most `fuel` of them. -/
def walk : Nat → State → State
  | 0, s => s
  | fuel + 1, s => if s.ctrl.walker = .issuing then walk fuel (walkEntry s) else s

/-- The walk goes on until the walker holds or has finished; a bank has 64 entries. -/
def runWalk (s : State) : State := walk 64 s

/-! ### Items that end -/

/-- The item in progress on lane `n` ends: the completion is handed on, and the lane enters IDLE or
HALTED and settles. A walker that the completion released has not issued again (R66, R67, R36). -/
def settleItem (n : Fin 4) (it : Item) (o : ItemOutcome) (s : State) : State :=
  let handed := complete n it o s
  let l := handed.lanes[n]
  settleLane n (setLane n { l with phase := phaseAfter l.cfg o } handed)

/-- The item ends, and a walker that its completion released walks on (R36; log entry 23). -/
def finishItem (n : Fin 4) (it : Item) (o : ItemOutcome) (s : State) : State :=
  runWalk (settleItem n it o s)

/-! ### Frames (2.3, 2.6) -/

/-- The current report at frame start (R27, R42). -/
def FrameReport.starting (frame : Word) : FrameReport :=
  { frame := frame, outcome := .inProgress, due := 0, issued := 0, completed := 0, faulted := 0,
    laneSkipped := 0, aborted := 0, gateSkipped := 0, rejected := 0 }

/-- Steps 2 to 5 of a frame start on the scan controller (R27). -/
def Ctrl.begin (c : Ctrl) : Ctrl :=
  { c with
    frame := c.frame + 1, current := .starting (c.frame + 1), state := .active, abortMark := false
    window := none, walker := .issuing, position := 0 }

/-- A frame start (R27), and the walk as far as it goes; `meet` is what the event controller takes
between the raises of BANK_SWAP and FRAME_START. -/
def frameStartMeeting (meet : State → State) (s : State) : State :=
  let t := meet (swapIfPending s)
  runWalk (raise srcFrameStart { t with ctrl := t.ctrl.begin })

/-- A frame start that nothing meets (R27). -/
def frameStart (s : State) : State := frameStartMeeting id s

/-- The timer halts and keeps its count (R118). -/
def Timebase.halt (t : Timebase) : Timebase := { t with counting := false }

/-- Entry to STOPPED (R41); `meet` is what the event controller takes between the raises of BANK_SWAP
and CONTROLLER_STOPPED. -/
def enterStoppedMeeting (meet : State → State) (s : State) : State :=
  let c := { s.ctrl with
    state := .stopped, walker := .idle, stopPending := false, deferred := false, abortMark := false }
  raise srcControllerStopped (meet (swapIfPending { s with ctrl := c, timer := s.timer.halt }))

/-- Entry to STOPPED that nothing meets (R41). -/
def enterStopped (s : State) : State := enterStoppedMeeting id s

/-- The current report with its outcome, copied to the last report (R40, steps 1 and 2). -/
def Ctrl.closeReport (c : Ctrl) : Ctrl :=
  let r := { c.current with outcome := if c.abortMark then .aborted else .complete }
  { c with current := r, last := r }

/-- A frame end with what follows it, as one operation of the scan controller (R40, R175, R176). `first`
and `second` are what the event controller takes after the raise of FRAME_END and after that of BANK_SWAP. A step
is indivisible but for what a rule puts inside it, and R175 puts claims there; that reads of EV_PENDING and
EV_SERVICE may fall there too, and all three between the raises of R176, is the model's choice (log entry 34). -/
def endFrame (first second : State → State) (s : State) : State :=
  let t := first (raise srcFrameEnd { s with ctrl := s.ctrl.closeReport })
  if t.ctrl.stopPending then enterStoppedMeeting second t
  else if t.ctrl.deferred then
    frameStartMeeting second { t with ctrl := { t.ctrl with deferred := false } }
  else second { t with ctrl := { t.ctrl with state := .waiting, walker := .idle } }

/-- A frame end is due: the walker is DRAINING and no lane holds an item (R38, R40). -/
def frameEndDue (s : State) : Bool := decide (s.ctrl.walker = .draining) && lanesEmpty s

/-! ### Triggers (2.2) -/

/-- A trigger is dropped as an overrun (R24). -/
def dropTrigger (s : State) : State :=
  let n := s.ctrl.overruns
  raise srcFrameOverrun
    { s with ctrl := { s.ctrl with overruns := if n = Config.overrunMax then n else n + 1 } }

/-- A trigger reaches the scan controller (R24). -/
def takeTrigger (s : State) : State :=
  match s.ctrl.state with
  | .stopped => s
  | .waiting => frameStart s
  | .active =>
    if s.ctrl.stopPending then s
    else if s.timer.deferPolicy && !s.ctrl.deferred then { s with ctrl := { s.ctrl with deferred := true } }
    else dropTrigger s

/-! ### Timebase (6.1, 6.3) -/

/-- The timer as START finds it (R116). -/
def Timebase.load (t : Timebase) : Timebase :=
  match t.mode with
  | .periodic | .oneShot =>
    { t with count := t.period, counting := decide (t.period ≠ 0) }
  | .off => t
  | .external => t

/-- A COUNTING timer takes a tick by a decrement (R116). -/
def Timebase.countTick (t : Timebase) : Timebase :=
  if t.counting && decide (t.count ≠ 0) then { t with count := t.count - 1 } else t

/-- The next tick brings the count from 1 to 0 (R117). -/
def Timebase.expiresNext (t : Timebase) : Bool := t.counting && decide (t.count = 1)

/-- A tick ends and the next one is under way at the divider's length (R112, R113). -/
def Timebase.nextTick (t : Timebase) : Timebase := { t with tickLength := t.divider, tickPhase := 0 }

/-- A lane in READY_WAIT or PAUSING counts a tick (R57, R63, R114). -/
def LanePhase.countTick : LanePhase → LanePhase
  | .readyWait it k => .readyWait it (k + 1)
  | .pausing it k => .pausing it (k + 1)
  | .disabled => .disabled
  | .idle => .idle
  | .shifting it => .shifting it
  | .gap it o => .gap it o
  | .halted => .halted

/-- No tick of the wait or the pause has been counted. -/
def LanePhase.justEntered : LanePhase → Bool
  | .readyWait _ k => decide (k = 0)
  | .pausing _ k => decide (k = 0)
  | .disabled => false
  | .idle => false
  | .shifting _ => false
  | .gap _ _ => false
  | .halted => false

/-- The lane counts a tick. -/
def Lane.countTick (l : Lane) : Lane := { l with phase := l.phase.countTick }

/-- The timer after an expiry: reloaded and COUNTING in PERIODIC mode, at 0 and HALTED in ONE_SHOT
mode (R117). -/
def Timebase.afterExpiry (t : Timebase) : Timebase :=
  match t.mode with
  | .periodic => { t with count := t.period, counting := decide (t.period ≠ 0) }
  | .oneShot | .off | .external => { t with count := 0, counting := false }

/-- The four lanes, each changed in the same way. -/
def mapLanes (f : Lane → Lane) (lanes : Vector Lane 4) : Vector Lane 4 := Vector.ofFn fun n => f lanes[n]

/-- A tick of the timebase as the counts take it: the timer and every lane at the same moment, each at
its own state (R112). What the tick brings about comes after (`tickTimerFirst`, `tickLaneFirst`); a lane whose
entry to READY_WAIT or PAUSING the tick itself brings about counts it in `lateCount`, where it does (R114). -/
def takeTick (s : State) : State :=
  { s with timer := s.timer.nextTick.countTick, lanes := mapLanes Lane.countTick s.lanes }

/-- The timer takes its mode's action at an expiry (R117). -/
def actAtExpiry (s : State) : State := { s with timer := s.timer.afterExpiry }

/-- An expiry of the timer, its count at 0: one trigger, and then the mode's action (R117). The trigger is
taken with the expiry; where R26 and R118 let the scan controller take it later, after a frame end or an entry
to STOPPED, `tickLaneFirst` and `stopWaiting` do. -/
def expireTimer (s : State) : State := actAtExpiry (takeTrigger s)

/-! ### Entry to STOPPED out of WAITING -/

/-- STOP or ABORT taken in WAITING (R44, R45). With `tickFirst` the timer takes an expiring tick, where it is
the next one, before the halt, which then leaves the count that its action left, and the trigger finds the
controller STOPPED (R118). In WAITING no lane holds an item (R28), so that the tick ends nothing there. -/
def stopWaiting (tickFirst : Bool) (s : State) : State :=
  if tickFirst && s.timer.expiresNext then takeTrigger (enterStopped (actAtExpiry (takeTick s)))
  else enterStopped s

/-! ### Resets -/

/-- A lane takes a soft reset: items discarded, an enabled lane IDLE, configuration kept (R72). -/
def Lane.softReset (l : Lane) : Lane :=
  { l with phase := if l.phase = .disabled then .disabled else .idle, queue := [] }

/-- The scan controller after a soft reset: as after power-on, the selector kept (R48, R20). -/
def Ctrl.softReset (c : Ctrl) : Ctrl := { Ctrl.powerOn with active := c.active }

/-- The timer after a soft reset: HALTED, count 0, everything else kept (R122). -/
def Timebase.softReset (t : Timebase) : Timebase :=
  { t with counting := false, count := 0 }

/-- The event controller after a soft reset (R142). -/
def Events.softReset (e : Events) : Events := { e with edges := 0, stack := [], threshold := 0 }

/-- The mirror port after a soft reset (R157). -/
def Mirror.softReset (m : Mirror) : Mirror :=
  { m with
    transaction :=
      match m.transaction with
      | .idle => .idle
      | .request | .response | .abandoned => .abandoned
    mdo := none, latch := .zeros, note := 0, unread := false, overwrite := false, error := none
    errorRepeat := false }

/-- The window after a soft reset (R174, R170). -/
def Window.softReset (w : Window) : Window :=
  { w with
    cmdArg := 0, result := .accepted, resultIndex := 0, accessError := none, accessRepeat := false }

/-- Every block takes its soft reset (R170). A raise that meets it and is taken first is discarded with the
pending set; one that is taken after it and kept is added by `commandSoftReset` (R142). -/
def softReset (s : State) : State :=
  { s with
    ctrl := s.ctrl.softReset, lanes := mapLanes Lane.softReset s.lanes, samples := .afterReset
    alerts := .afterReset, timer := s.timer.softReset, events := s.events.softReset
    mirror := s.mirror.softReset, window := s.window.softReset }

/-- Every block in its power-on state, held there (R180). What waits and what will meet it is no state of
the device and stays (log entries 30 and 34). -/
def powerOn (s : State) : State :=
  { State.reset with inReset := true, meetings := s.meetings, pending := s.pending }

/-! ### Events that meet an operation -/

/-- What meets the operation that is taken (log entry 34). -/
def nextMeeting (s : State) : Meeting := s.meetings.headD .nothing

/-- The state with that meeting taken. -/
def takeMeeting (s : State) : State := { s with meetings := s.meetings.tail }

/-! ### Taking a step -/

/-- What a step answers. -/
abbrev Answer := Host.Outcome State Fault Refusal

/-- While the device is held in power-on reset it takes no access and no event (R159, R180). -/
def whenRunning (f : State → State) (s : State) : State := if s.inReset then s else f s

/-- The state that an answer leaves, the one before where it leaves none. -/
def stateOf (before : State) : Answer → State
  | .next after => after
  | .fault _ => before
  | .refused _ => before

/-- A step that the device takes unless it is held in power-on reset (R159, R180). -/
def running (f : State → State) (s : State) : Answer := .next (whenRunning f s)

/-- An event that arises only where its condition holds. -/
def when (p : State → Bool) (f : State → State) (s : State) : State := if p s then f s else s

end Sys2Proof.Machine
end

