-- ==== Sys2Proof/Machine/Wires.lean ====
section
/-! DEFINITION. The lane wires: what an exchange sends and captures, bit period by bit period (3.4), and
the levels of a lane's outputs in each lane state (R53). -/

namespace Sys2Proof.Machine

/-! ### Bits of an exchange -/

/-- The number of bit periods of an exchange (R56). -/
def Item.periods (it : Item) : Nat := it.outLen.toNat + it.inLen.toNat

/-- The bit that lane and item give LnDO in bit period `k`, counted from 1: a command bit in the lane's
bit order, then the fill bit (R59). -/
def sentBit (c : LaneConfig) (it : Item) (k : Nat) : Bool :=
  if 1 ≤ k ∧ k ≤ it.outLen.toNat then
    it.outWord.getLsbD (if c.lsbFirst then k - 1 else it.outLen.toNat - k)
  else c.fillBit

/-- The bit captured in period `k`: LnDI at the capture edge, or in loopback the lane's own output
(R60, R64). -/
def capturedBit (c : LaneConfig) (it : Item) (din : BitVec 64) (k : Nat) : Bool :=
  if c.loopback then sentBit c it k else din.getLsbD (k - 1)

/-- Bit `j` of the response: the period that carries it follows from the bit order (R60). -/
def responseBit (c : LaneConfig) (it : Item) (din : BitVec 64) (j : Nat) : Bool :=
  if j < it.inLen.toNat then
    capturedBit c it din
      (it.outLen.toNat + (if c.lsbFirst then j + 1 else it.inLen.toNat - j))
  else false

/-- The response, zero-extended to 32 bits (R60). -/
def response (c : LaneConfig) (it : Item) (din : BitVec 64) : Value :=
  BitVec.ofFnLE (n := 32) fun j => responseBit c it din j.val

/-- All in_len response bits are equal (R61). -/
def responseStuck (it : Item) (r : Value) : Bool :=
  decide (r = 0) || decide (r = lowMask it.inLen.toNat)

/-- The outcome decided at the end of shifting (R61). -/
def shiftOutcome (c : LaneConfig) (it : Item) (din : BitVec 64) : ItemOutcome :=
  let r := response c it din
  if c.responseCheck && decide (8 ≤ it.inLen.toNat) && responseStuck it r then .fault .stuckResponse
  else .completed r

/-- A sample of LnRDY shows ready (R57). -/
def readyActive (c : LaneConfig) (rdy : Bool) : Bool :=
  match c.ready with
  | .disabled => false
  | .activeHigh => rdy
  | .activeLow => !rdy

/-! ### Output levels -/

/-- The levels of a lane's outputs: LnCLK, LnDO, LnSEL0 to LnSEL3. -/
structure LanePins where
  clk : Bool
  dout : Bool
  sel : Vector Bool 4
deriving DecidableEq, Repr

/-- The idle level of a serial clock: high in modes 2 and 3 (R56, R145). -/
def idleLevel (mode : BitVec 2) : Bool := mode.getLsbD 1

/-- Bits are captured at the trailing edge and driven at the leading one: modes 1 and 3 (R56, R145). -/
def trailingCapture (mode : BitVec 2) : Bool := mode.getLsbD 0

/-- The four selects with line `k` asserted, or none of them (R58). -/
def selectLevels (c : LaneConfig) (asserted : Option (BitVec 2)) : Vector Bool 4 :=
  Vector.ofFn fun j =>
    if asserted = some (BitVec.ofFin (w := 2) j) then c.selectActiveHigh else !c.selectActiveHigh

/-- Idle clock, fill bit, no select (R53). -/
def idlePins (c : LaneConfig) : LanePins :=
  { clk := idleLevel c.clockMode, dout := c.fillBit, sel := selectLevels c none }

/-- The outputs in the `h`-th half bit period of SHIFTING, counted from 0: halves 2(k − 1) and 2k − 1
make period k, and half 2N is the select hold (R56, R58, R59; in loopback no select, R64). -/
def shiftPins (c : LaneConfig) (it : Item) (h : Nat) : LanePins :=
  let second := decide (h % 2 = 1)
  let period := h / 2 + 1
  let driven :=
    if trailingCapture c.clockMode && !second then
      (if h = 0 then c.fillBit else sentBit c it (period - 1))
    else sentBit c it period
  { clk := if h < 2 * it.periods then xor (idleLevel c.clockMode) second else idleLevel c.clockMode
    dout := if h < 2 * it.periods then driven else c.fillBit
    sel := selectLevels c (if c.loopback then none else some it.select) }

/-- The outputs of a lane, none where they are high-impedance; `h` is the half bit period reached where
the lane is SHIFTING (R53). -/
def Lane.pins (l : Lane) (h : Nat) : Option LanePins :=
  match l.phase with
  | .disabled => none
  | .shifting it => some (shiftPins l.cfg it h)
  | .idle => some (idlePins l.cfg)
  | .readyWait _ _ => some (idlePins l.cfg)
  | .gap _ _ => some (idlePins l.cfg)
  | .pausing _ _ => some (idlePins l.cfg)
  | .halted => some (idlePins l.cfg)

end Sys2Proof.Machine
end

