-- ==== Sys2Proof/Machine/Port.lean ====
section
/-! DEFINITION. The mirror port (chapter 8): framing, request complete, the six commands, the response
bytes, the mirror error latch. -/

namespace Sys2Proof.Machine

/-! ### Command bytes (11.3) -/

abbrev codeReadSlot : Byte := 0x21
abbrev codeReadRun : Byte := 0x22
abbrev codeReadState : Byte := 0x30
abbrev codePeekAlert : Byte := 0x40
abbrev codeAckAlert : Byte := 0x41
abbrev codePostNote : Byte := 0x50

/-- Commands whose request is two bytes (R146). -/
def takesArgument (command : Byte) : Bool :=
  decide (command = codeReadSlot) || decide (command = codeReadRun) ||
    decide (command = codeAckAlert) || decide (command = codePostNote)

/-- The number of request bits of a command (R146). -/
def requestBits (command : Byte) : Nat := if takesArgument command then 16 else 8

/-! ### The response on MDO (R147) -/

/-- Byte `k` of the data that follows the status byte (R147 to R152). -/
def Mirror.dataByte (m : Mirror) (k : Nat) : Byte :=
  match m.status with
  | .ok =>
    if m.command = codeReadSlot then (if k < 8 then m.latch.byte k else 0)
    else if m.command = codeReadRun then m.latch.byte (k % 8)
    else if m.command = codeReadState then (if k < 6 then m.latch.byte k else 0)
    else if m.command = codePeekAlert then (if k < 9 then m.latch.byte k else 0)
    else 0
  | .refused => 0
  | .unknown => 0
  | .accepted => 0
  | .stale => 0
  | .empty => 0

/-- Byte `p` of the transaction as MDO carries it: 00h in the request, then the turnaround byte, the
status byte, the data (R146, R147). -/
def Mirror.outByte (m : Mirror) (p : Nat) : Byte :=
  let first := requestBits m.command / 8
  if p < first then 0
  else if p = first then Config.turnaround
  else if p = first + 1 then m.status.code
  else m.dataByte (p - (first + 2))

/-- The level of MDO for bit `k`, counted from 1, most significant bit of each byte first (R145). -/
def Mirror.outBit (m : Mirror) (k : Nat) : Bool :=
  match m.transaction with
  | .request => false
  | .response => (m.outByte ((k - 1) / 8)).getLsbD (7 - (k - 1) % 8)
  | .idle => false
  | .abandoned => false

/-- The port presents the bit of the period that begins (R145). -/
def Mirror.present (m : Mirror) : Mirror := { m with mdo := some (m.outBit (m.bitCount + 1)) }

/-! ### Errors (R156) -/

/-- The mirror error latch takes an error, or sets its repeat flag (R156). -/
def Mirror.recordError (m : Mirror) (e : MirrorError) (command : Option Byte) : Mirror :=
  match m.error with
  | none => { m with error := some { error := e, command := command }, errorRepeat := false }
  | some _ => { m with errorRepeat := true }

/-- A read of the latch's word empties it (R156). -/
def Mirror.emptyError (m : Mirror) : Mirror := { m with error := none, errorRepeat := false }

/-! ### The commands at request complete (8.3) -/

/-- The state with the mirror port replaced. -/
def setMirror (m : Mirror) (s : State) : State := { s with mirror := m }

/-- The port answers with a status and no data. -/
def answer (st : MirrorStatus) (s : State) : State := setMirror { s.mirror with status := st } s

/-- A refused or unknown request: answered, and recorded in the mirror error latch with its command
byte (R155, R156). -/
def mirrorRefuse (st : MirrorStatus) (e : MirrorError) (command : Byte) (s : State) : State :=
  setMirror ({ s.mirror with status := st }.recordError e (some command)) s

/-- The mirror record latch takes the snapshot of slot `i` (R93). -/
def mirrorSnapshot (i : Fin 64) (s : State) : State :=
  setMirror { s.mirror with latch := .slot i s.samples.slots[i] } s

/-- The slot a byte names, none for 64 to 255. -/
def slotOfByte (b : Byte) : Option (Fin 64) :=
  if h : b.toNat < 64 then some ⟨b.toNat, h⟩ else none

/-- READ_SLOT, and READ_RUN for its first record (R149, R150). -/
def mirrorReadSlot (command b : Byte) (s : State) : State :=
  match slotOfByte b with
  | none => mirrorRefuse .refused .refused command s
  | some i =>
    let t := answer .ok (mirrorSnapshot i s)
    setMirror { t.mirror with records := 1 } t

/-- The state record as its owners answer (R151). -/
def stateRecord (s : State) : StateRecord :=
  { state := s.ctrl.state, walker := s.ctrl.walker, stopPending := s.ctrl.stopPending
    deferred := s.ctrl.deferred, commitPending := s.ctrl.commitPending, active := s.ctrl.active
    frame := s.ctrl.frame, overruns := s.ctrl.overruns, alertCount := s.alerts.records.length }

/-- READ_STATE (R151). -/
def mirrorReadState (s : State) : State :=
  answer .ok (setMirror { s.mirror with latch := .state (stateRecord s) } s)

/-- PEEK_ALERT (R152). -/
def mirrorPeekAlert (s : State) : State :=
  answer .ok (setMirror { s.mirror with latch := .alert s.alerts.look } s)

/-- The status byte of an acknowledgement's outcome (R152, R155). -/
def statusOfAck : AckOutcome → MirrorStatus
  | .accepted => .accepted
  | .stale => .stale
  | .empty => .empty
  | .none => .empty

/-- ACK_ALERT (R152). -/
def mirrorAckAlert (serial : Byte) (s : State) : State :=
  answer (statusOfAck (s.alerts.ackOutcome serial)) { s with alerts := s.alerts.acknowledge serial }

/-- The note mailbox takes a note (R153). -/
def Mirror.takeNote (m : Mirror) (b : Byte) : Mirror :=
  { m with note := b, unread := true, overwrite := m.overwrite || m.unread }

/-- POST_NOTE: the mailbox first, then the raise (R153). -/
def mirrorPostNote (b : Byte) (s : State) : State :=
  answer .ok (raise srcMirrorNote (setMirror (s.mirror.takeNote b) s))

/-- The action of the request that the command and argument bytes hold (8.3). -/
def performRequest (s : State) : State :=
  let m := s.mirror
  if m.command = codeReadSlot then mirrorReadSlot m.command m.argument s
  else if m.command = codeReadRun then mirrorReadSlot m.command m.argument s
  else if m.command = codeReadState then mirrorReadState s
  else if m.command = codePeekAlert then mirrorPeekAlert s
  else if m.command = codeAckAlert then mirrorAckAlert m.argument s
  else if m.command = codePostNote then mirrorPostNote m.argument s
  else mirrorRefuse .unknown .unknown m.command s

/-- Request complete: the action is performed and the transaction enters RESPONSE (R146). -/
def requestComplete (s : State) : State :=
  performRequest (setMirror { s.mirror with transaction := .response } s)

/-! ### MCLK edges (R145) -/

/-- A captured request bit joins its byte, most significant bit first. -/
def shiftIn (b : Byte) (bit : Bool) : Byte := (b <<< 1) ||| BitVec.setWidth 8 (BitVec.ofBool bit)

/-- A capture edge in REQUEST or RESPONSE: the bit count increases, and in REQUEST the bit joins the
request (R145 to R147). -/
def Mirror.capture (m : Mirror) (bit : Bool) : Mirror :=
  match m.transaction with
  | .request =>
    if m.bitCount < 8 then { m with bitCount := m.bitCount + 1, command := shiftIn m.command bit }
    else { m with bitCount := m.bitCount + 1, argument := shiftIn m.argument bit }
  | .response => { m with bitCount := m.bitCount + 1 }
  | .idle => m
  | .abandoned => m

/-- The last bit of the request has been captured (R146). -/
def Mirror.requestDone (m : Mirror) : Bool :=
  decide (m.transaction = .request) && decide (8 ≤ m.bitCount) &&
    decide (m.bitCount = requestBits m.command)

/-- A capture edge, with the request's action where it captures the request's last bit. -/
def captureBit (bit : Bool) (s : State) : State :=
  let t := setMirror (s.mirror.capture bit) s
  if t.mirror.requestDone then requestComplete t else t

/-- A READ_RUN is being answered with records (R150). -/
def Mirror.inRun (m : Mirror) : Bool :=
  decide (m.transaction = .response) && decide (m.command = codeReadRun) && decide (m.status = .ok)

/-- The bit count at which the record after those taken begins: four bytes, then eight a record
(R150). -/
def Mirror.nextRecordAt (m : Mirror) : Nat := 32 + 64 * m.records

/-- The slot of the next record: slot 63 is followed by slot 0 (R150). -/
def Mirror.nextSlot (m : Mirror) : Fin 64 :=
  ⟨(m.argument.toNat + m.records) % 64, Nat.mod_lt _ (by decide)⟩

/-- The next record of a run is snapshotted (R150). -/
def takeNextRecord (s : State) : State :=
  let t := mirrorSnapshot s.mirror.nextSlot s
  setMirror { t.mirror with records := t.mirror.records + 1 } t

/-- The trailing edge of a bit period: the next record begins where the last one has ended (R150). -/
def endPeriod (s : State) : State :=
  if s.mirror.inRun && decide (s.mirror.bitCount = s.mirror.nextRecordAt) then takeNextRecord s else s

/-- The leading edge of a bit period: capture in modes 0 and 2, presentation in modes 1 and 3. -/
def leadingEdge (bit : Bool) (s : State) : State :=
  let t := setMirror { s.mirror with inPeriod := true } s
  if trailingCapture s.mirror.inForce.clockMode then setMirror t.mirror.present t else captureBit bit t

/-- The trailing edge of a bit period: capture in modes 1 and 3, presentation of the next period's bit
in modes 0 and 2. -/
def trailingEdge (bit : Bool) (s : State) : State :=
  let t := setMirror { s.mirror with inPeriod := false } s
  if trailingCapture s.mirror.inForce.clockMode then endPeriod (captureBit bit t)
  else
    let u := endPeriod t
    setMirror u.mirror.present u

/-- The transaction is in REQUEST or RESPONSE: MCLK and MDI are sampled and MDO is driven (R143). -/
def Mirror.underWay (m : Mirror) : Bool :=
  match m.transaction with
  | .request => true
  | .response => true
  | .idle => false
  | .abandoned => false

/-- A sample of MCLK that finds `level` with MDI at `mdi` (R145): a change away from the idle level opens
a bit period, a change back closes the one that is open. -/
def mclkSample (level mdi : Bool) (s : State) : State :=
  if s.mirror.underWay && decide (level ≠ s.mirror.mclk) then
    let t := setMirror { s.mirror with mclk := level } s
    if level ≠ idleLevel s.mirror.inForce.clockMode then leadingEdge mdi t
    else if s.mirror.inPeriod then trailingEdge mdi t
    else t
  else s

/-! ### Selections (R146, R148) -/

/-- MSEL is asserted: MIRROR_CFG is copied, and with enable on a transaction begins in REQUEST (R144,
R146). -/
def Mirror.assertSelect (m : Mirror) (mclk : Bool) : Mirror :=
  let copied := { m with mselAsserted := true, inForce := m.cfg }
  if m.cfg.enable then
    { copied with
      transaction := .request, bitCount := 0, command := 0, argument := 0, records := 0, mclk := mclk
      inPeriod := false, mdo := some false }
  else copied

/-- The command byte, where all of it was received (R156). -/
def Mirror.receivedCommand (m : Mirror) : Option Byte := if m.bitCount < 8 then none else some m.command

/-- MSEL is deasserted: the transaction ends, one in REQUEST as INCOMPLETE (R148). -/
def Mirror.releaseSelect (m : Mirror) : Mirror :=
  let closed := { m with mselAsserted := false, transaction := .idle, mdo := none }
  match m.transaction with
  | .request => closed.recordError .incomplete m.receivedCommand
  | .response => closed
  | .idle => closed
  | .abandoned => closed

/-! ### The command rows as steps -/

/-- The request bits captured so far are the first bits of this request (R146). -/
def Mirror.agrees (m : Mirror) (command argument : Byte) : Bool :=
  if m.bitCount < 8 then decide (m.command = command >>> (8 - m.bitCount))
  else decide (m.bitCount < 16) && takesArgument command && decide (m.command = command) &&
    decide (m.argument = argument >>> (16 - m.bitCount))

/-- The port at the capture edge of the request's last bit, the whole request received (R145, R146). -/
def Mirror.received (m : Mirror) (command argument : Byte) : Mirror :=
  let mode := m.inForce.clockMode
  { m with
    bitCount := requestBits command, command := command
    argument := if takesArgument command then argument else m.argument
    mclk := if trailingCapture mode then idleLevel mode else !idleLevel mode
    inPeriod := !trailingCapture mode, mdo := some false }

/-- The rest of this request is clocked in and is complete (R146; log entry 8). -/
def receiveRequest (command argument : Byte) (s : State) : State :=
  if decide (s.mirror.transaction = .request) && s.mirror.agrees command argument then
    requestComplete (setMirror (s.mirror.received command argument) s)
  else s

/-- The rest of the record under way is clocked out and the next one begins (R150; log entry 9). -/
def nextRunRecord (s : State) : State :=
  let mode := s.mirror.inForce.clockMode
  let ended : Mirror :=
    { s.mirror with
      bitCount := s.mirror.nextRecordAt, mclk := idleLevel mode, inPeriod := false
      mdo := some (s.mirror.outBit s.mirror.nextRecordAt) }
  let t := takeNextRecord (setMirror ended s)
  if trailingCapture mode then t else setMirror t.mirror.present t

end Sys2Proof.Machine
end

