-- ==== Sys2Proof/Machine/Access.lean ====
section
/-! DEFINITION. Host accesses (chapter 9): what every register reads as, the table port, and the writes that the
owners of the registers take. -/

namespace Sys2Proof.Machine

/-! ### The table port (9.3) -/

/-- Word `a` of the selected table, `a` inside the table (R164, R166). -/
def tableWord (t : Table) (a : Word) (s : State) : Word :=
  match t with
  | .staged => (stagedBank s).word a
  | .active => (activeBank s).word a
  | .slotConfig => (s.limits[recordOf a]).word (wordOf a)
  | .laneConfig => (s.lanes[(field a 2 2).toFin]).cfg.word (field a 0 2).toFin
  | .sourceConfig => (s.events.sources[(field a 0 4).toFin]).word
  | .reports => if a.getLsbD 3 then s.ctrl.last.word (wordOf a) else s.ctrl.current.word (wordOf a)
  | .latches =>
    match a.toNat with
    | 0 => s.ctrl.schedErrorWord0
    | 1 => s.ctrl.schedErrorWord1
    | 2 => s.mirror.errorWord
    | 3 => s.window.accessDetailWord
    | _ => 0

/-- TABLE_ADDR lies inside the selected table (R164). -/
def tableInRange (s : State) : Bool := decide (s.window.tableAddr.toNat < s.window.tableSel.size)

/-- TABLE_ADDR moves on by one (R164). -/
def advanceTable (s : State) : State :=
  { s with window := { s.window with tableAddr := s.window.tableAddr + 1 } }

/-- The word a read of TABLE_DATA returns: 0000h outside the table (R164). -/
def tableReadWord (s : State) : Word :=
  if tableInRange s then tableWord s.window.tableSel s.window.tableAddr s else 0

/-- What a read of TABLE_DATA changes: the mirror error latch is emptied by a read of its word (R156),
and the address moves on (R164). -/
def tableRead (s : State) : State :=
  if tableInRange s then
    let t := if decide (s.window.tableSel = .latches) && decide (s.window.tableAddr = 2) then
      setMirror s.mirror.emptyError s else s
    advanceTable t
  else accessError .tableRange 0x0D false s

/-- The lane after its enable field has been written: on enters IDLE, off enters DISABLED, unchanged
leaves the lane state (R52). -/
def Lane.configure (l : Lane) (c : LaneConfig) : Lane :=
  if c.enable = l.cfg.enable then { l with cfg := c }
  else { cfg := c, phase := if c.enable then .idle else .disabled, queue := [] }

/-- A write through selector 0 (R13). -/
def writeStaged (v : Word) (s : State) : State :=
  if s.ctrl.commitPending then refuseWrite .bankFrozen 0x0D s
  else advanceTable (setStagedBank ((stagedBank s).setWord s.window.tableAddr v) s)

/-- A write through selector 2 (R96). -/
def writeSlotConfig (v : Word) (s : State) : State :=
  let i := recordOf s.window.tableAddr
  match (s.limits[i]).setWord (wordOf s.window.tableAddr) v with
  | none => refuseWrite .badValue 0x0D s
  | some c => advanceTable { s with limits := s.limits.set i.val c i.isLt }

/-- The lane that a word address of table 3 lies in (R49). -/
def laneOfAddr (a : Word) : Fin 4 := (field a 2 2).toFin

/-- A write through selector 3: the state error comes before the value error (R50, R51, R165). -/
def writeLaneConfig (v : Word) (s : State) : State :=
  let n := laneOfAddr s.window.tableAddr
  let l := s.lanes[n]
  if s.ctrl.state = .stopped then
    match l.cfg.setWord (field s.window.tableAddr 0 2).toFin v with
    | none => refuseWrite .badValue 0x0D s
    | some c => advanceTable (setLane n (l.configure c) s)
  else refuseWrite .configBusy 0x0D s

/-- A write through selector 4 (R124, R127): mask and level take the written values at once. -/
def writeSourceConfig (v : Word) (s : State) : State :=
  let n : Fin 16 := (field s.window.tableAddr 0 4).toFin
  match sourceConfigOfWord v with
  | none => refuseWrite .badValue 0x0D s
  | some c => advanceTable { s with events := { s.events with sources := s.events.sources.set n.val c n.isLt } }

/-- A write of TABLE_DATA: range first, then the selected table's rule (R164, R165). -/
def writeTableData (v : Word) (s : State) : State :=
  if tableInRange s then
    match s.window.tableSel with
    | .staged => writeStaged v s
    | .active => refuseWrite .readOnlyTarget 0x0D s
    | .slotConfig => writeSlotConfig v s
    | .laneConfig => writeLaneConfig v s
    | .sourceConfig => writeSourceConfig v s
    | .reports => refuseWrite .readOnlyTarget 0x0D s
    | .latches => refuseWrite .readOnlyTarget 0x0D s
  else refuseWrite .tableRange 0x0D s

/-- A write of TABLE_SEL (R163). -/
def writeTableSel (v : Word) (s : State) : State :=
  match tableOfSelector v with
  | none => refuseWrite .badValue 0x0B s
  | some t => { s with window := { s.window with tableSel := t } }

/-! ### The timer registers (chapter 6) -/

/-- A write of TIMER_MODE: whole in STOPPED; otherwise only the policy, where mode and edge are the ones
held (R115). -/
def writeTimerMode (v : Word) (s : State) : State :=
  let mode := timerModeOfCode (field v 0 2)
  let edge := v.getLsbD 2
  if s.ctrl.state = .stopped ∨ (mode = s.timer.mode ∧ edge = s.timer.fallingEdge) then
    { s with timer := { s.timer with mode := mode, fallingEdge := edge, deferPolicy := v.getLsbD 3 } }
  else refuseWrite .configBusy 0x07 s

/-- A write of TIMER_DIV; the tick under way keeps its length (R113). -/
def writeTimerDiv (v : Word) (s : State) : State :=
  if 1 ≤ v.toNat ∧ v.toNat ≤ 4096 then { s with timer := { s.timer with divider := v } }
  else refuseWrite .badValue 0x08 s

/-- The timer after a write of TIMER_PERIOD (R119). -/
def Timebase.writePeriod (t : Timebase) (v : Word) : Timebase :=
  if t.counting then
    if v = 0 then { t with period := v, count := 0, counting := false }
    else { t with period := v, count := v }
  else { t with period := v }

/-! ### The sample, alert and event registers -/

/-- A write of SAMPLE_SEL: the copy, then the consume (R86, R87). -/
def writeSampleSel (slot : Byte) (consume : Bool) (s : State) : State :=
  match slotOfByte slot with
  | none => refuseWrite .tableRange 0x0E s
  | some i =>
    let copied := s.samples.snapshot i consume
    { s with samples := if consume then copied.setSlot i (s.samples.slots[i]).consumed else copied }

/-- What a read of ALERT_W0 changes: the head record or the empty marker goes into the host alert latch
(R105, R178). -/
def peekAlert (s : State) : State := { s with alerts := { s.alerts with hostLatch := s.alerts.look } }

/-- A write of ALERT_ACK (R106, R107). -/
def writeAlertAck (v : Word) (s : State) : State :=
  if v.toNat ≤ 255 then
    let serial := v.extractLsb' 0 8
    { s with alerts := { s.alerts.acknowledge serial with hostAck := s.alerts.ackOutcome serial } }
  else refuseWrite .badValue 0x17 s

/-- A write of EV_THRESH (R131). -/
def writeThreshold (v : Word) (s : State) : State :=
  { s with events := { s.events with threshold := field v 0 3, irqActiveHigh := v.getLsbD 8 } }

/-- What a read of MIRROR_NOTE changes: the unread and overwrite flags are cleared (R154). -/
def readNote (s : State) : State :=
  setMirror { s.mirror with unread := false, overwrite := false } s

/-- A write of ACCESS_ERR empties the latch and its detail (R173). -/
def clearAccessError (s : State) : State :=
  { s with window := { s.window with accessError := none, accessRepeat := false } }

/-! ### What a host read returns (9.2) -/

/-- The word that a read of the register at `a` returns as the state stands at the read. For EV_CLAIM,
ALERT_W0, MIRROR_NOTE and TABLE_DATA it is the word returned by the read that then has its effect
(R159, R162). -/
def registerWord (a : BitVec 5) (s : State) : Word :=
  match a.toNat with
  | 0x00 => Config.idWord
  | 0x01 => s.ctrl.stateWord
  | 0x02 => s.window.resultWord
  | 0x03 => s.window.cmdArg
  | 0x04 => s.window.accessErrorWord
  | 0x05 => s.ctrl.frame
  | 0x06 => s.ctrl.overruns.setWidth 16
  | 0x07 => s.timer.modeWord
  | 0x08 => s.timer.divider
  | 0x09 => s.timer.period
  | 0x0A => s.timer.count
  | 0x0B => s.window.tableSel.code.setWidth 16
  | 0x0C => s.window.tableAddr
  | 0x0D => tableReadWord s
  | 0x0E => s.samples.selWord
  | 0x0F => s.samples.statusWord
  | 0x10 => lowWord s.samples.latch.value
  | 0x11 => highWord s.samples.latch.value
  | 0x12 => s.samples.latch.sequence
  | 0x13 => s.alerts.look.word0
  | 0x14 => s.alerts.hostLatch.sequence
  | 0x15 => lowWord s.alerts.hostLatch.value
  | 0x16 => highWord s.alerts.hostLatch.value
  | 0x17 => s.alerts.ctrlWord
  | 0x18 => claimWord s
  | 0x19 => s.events.threshWord
  | 0x1A => pendingWord s
  | 0x1B => s.events.serviceWord
  | 0x1D => laneStatusWord s.lanes
  | 0x1E => s.mirror.cfg.word
  | 0x1F => s.mirror.noteWord
  | _ => 0

/-- D15 to D0, `read` the register of which a read is strobed: the word that the register reads, and
high-impedance where none is strobed and while RESET is asserted (R159, 11.5). -/
def dataBus (read : Option (BitVec 5)) (s : State) : Option Word :=
  if s.inReset then none else read.map fun a => registerWord a s

/-- A host read of the register at `a`: its word goes out on D15 to D0, and its effect follows (R162). -/
def hostRead (a : BitVec 5) (effect : State → State) (s : State) : State :=
  let t := effect s
  { t with window := { t.window with lastRead := some (registerWord a s) } }

end Sys2Proof.Machine
end

