-- ==== Sys2Proof/Machine/LaneEnds.lean ====
section
/-! DEFINITION. How items end on the lanes (3.4 to 3.7): the end of shifting, the end of a gap, the ticks
of a ready wait and a pause, and the tick as a whole. Each takes what ends an item as its first argument:
`finishItem`, after which a released walker walks on, or `settleItem`, after which it has not yet. -/

namespace Sys2Proof.Machine

/-- What ends the item in progress on a lane with an outcome. -/
abbrev Ending := Fin 4 → Item → ItemOutcome → State → State

/-- The state with the phase of lane `n` replaced. -/
def setPhase (n : Fin 4) (p : LanePhase) (s : State) : State := setLane n { s.lanes[n] with phase := p } s

/-! ### Shifting and gap -/

/-- The end of shifting: the outcome is decided and the lane enters GAP; with a gap of 0, GAP ends at the
moment it is entered, and the item with it (R58, R61, R62). -/
def endShifting (ending : Ending) (n : Fin 4) (din : BitVec 64) (s : State) : State :=
  match (s.lanes[n]).phase with
  | .shifting it =>
    let o := shiftOutcome (s.lanes[n]).cfg it din
    let t := setPhase n (.gap it o) s
    if (s.lanes[n]).cfg.gap = 0 then ending n it o t else t
  | .disabled => s
  | .idle => s
  | .readyWait _ _ => s
  | .gap _ _ => s
  | .pausing _ _ => s
  | .halted => s

/-- The end of the gap: the item completes with the decided outcome (R62). -/
def endGap (ending : Ending) (n : Fin 4) (s : State) : State :=
  match (s.lanes[n]).phase with
  | .gap it o => ending n it o s
  | .disabled => s
  | .idle => s
  | .readyWait _ _ => s
  | .shifting _ => s
  | .pausing _ _ => s
  | .halted => s

/-! ### Ticks -/

/-- The lane has counted the last tick of its ready wait (R57). -/
def timeoutReached (n : Fin 4) (s : State) : Bool :=
  match (s.lanes[n]).phase with
  | .readyWait _ k => decide ((s.lanes[n]).cfg.readyTimeout.toNat ≤ k)
  | .disabled => false
  | .idle => false
  | .shifting _ => false
  | .gap _ _ => false
  | .pausing _ _ => false
  | .halted => false

/-- The lane has counted the last tick of its pause (R63). -/
def pauseReached (n : Fin 4) (s : State) : Bool :=
  match (s.lanes[n]).phase with
  | .pausing it k => decide (it.duration.toNat ≤ k)
  | .disabled => false
  | .idle => false
  | .readyWait _ _ => false
  | .shifting _ => false
  | .gap _ _ => false
  | .halted => false

/-- The lane's wait or pause is over: the item completes FAULT with READY_TIMEOUT, or DONE with no
response (R57, R63). -/
def expireLane (ending : Ending) (n : Fin 4) (s : State) : State :=
  match (s.lanes[n]).phase with
  | .readyWait it _ => ending n it (.fault .readyTimeout) s
  | .pausing it _ => ending n it (.completed 0) s
  | .disabled => s
  | .idle => s
  | .shifting _ => s
  | .gap _ _ => s
  | .halted => s

/-- Every lane once, those of `first` before the others, which follow in lane order. -/
def tickOrder (first : List (Fin 4)) : List (Fin 4) := (first ++ allLanes).eraseDups

/-- The lanes whose wait or pause a tick has ended, in that order. -/
def endedLanes (first : List (Fin 4)) (s : State) : List (Fin 4) :=
  (tickOrder first).filter fun n => timeoutReached n s || pauseReached n s

/-- These lanes' items end, one after another. -/
def expireLanes (ending : Ending) (ns : List (Fin 4)) (s : State) : State :=
  ns.foldl (fun t n => expireLane ending n t) s

/-- The timer's part of a tick that brought its count from 1 to 0. -/
def expireTimerIf (due : Bool) (s : State) : State := if due then expireTimer s else s

/-- A whole tick: the counts, then the timer's expiry, then the ends of the lanes' waits. The manual gives the lanes
no order, and the model's own field does (log entries 5, 34). What follows in the tick's moment comes after. -/
def tickTimerFirst (ending : Ending) (s : State) : State :=
  let t := takeTick (takeMeeting s)
  expireLanes ending (endedLanes (nextMeeting s).order t) (expireTimerIf s.timer.expiresNext t)

/-- A lane whose entry to READY_WAIT or PAUSING meets a tick, and that takes the tick after it, counts it
(R114), and the wait or pause ends where that is its last one (R57, R63). After the counts of a tick every other
wait stands above 0. -/
def lateCount (ending : Ending) (s : State) (n : Fin 4) : State :=
  if (s.lanes[n]).phase.justEntered then
    let t := setLane n (s.lanes[n]).countTick s
    if timeoutReached n t || pauseReached n t then expireLane ending n t else t
  else s

/-! ### Lane events that meet an ABORT -/

/-- The lanes that count late, one after another. -/
def lateLanes (steps : List LateStep) : List (Fin 4) :=
  steps.filterMap fun
    | .count n => some n
    | .release => none
    | .frameEnd => none

/-- A lane event that meets an ABORT: completions reach their receivers, and a walker that one of them
released does not issue before the ABORT is taken (R46, R71). A frame end or a release that a tick makes due is
not taken there. -/
def laneEnd (s : State) : LaneEnd → State
  | .gapEnd n => endGap settleItem n s
  | .shiftEnd n din => endShifting settleItem n din s
  | .tick => (lateLanes (nextMeeting s).late).foldl (lateCount settleItem) (tickTimerFirst settleItem s)

/-- What arises between an ABORT and the last of its abort requests (R46, R70, R71). -/
def abortStep (s : State) : AbortStep → State
  | .event e => laneEnd s e
  | .request n => abortLane s n

end Sys2Proof.Machine
end

