-- ==== Sys2Proof/Machine/LaneEvents.lean ====
section
/-! DEFINITION. The meanings of the events of the lanes, the held queue and the frame end (chapters 2
and 3). Each arises only in the lane or walker state that its rule names (log entry 2). -/

namespace Sys2Proof.Machine

/-- The entry at the walker's position. -/
def heldEntry (s : State) : Entry := (activeBank s)[s.ctrl.position]

/-- The walker holds for a queue in which a place is free (R35). -/
def releaseDue (s : State) : Bool :=
  decide (s.ctrl.walker = .heldQueue) &&
    decide ((s.lanes[(heldEntry s).lane]).queue.length < Config.queueDepth)

/-- The held entry is issued and the walk goes on (R35). -/
def releaseHeld (s : State) : State :=
  match (heldEntry s).itemKind with
  | some k => runWalk (issueEntry k (heldEntry s) s)
  | none => s

/-- The lane of the held entry takes its head item where it still has one to take, and into the freed
place the walker issues the held entry (R35). -/
def takeAndRelease (s : State) : State :=
  let t := settleLane (heldEntry s).lane s
  when releaseDue releaseHeld t

/-- HELD_QUEUE_RELEASE (R35). -/
def execHeldQueueRelease (s : State) : Answer :=
  running (when (fun t => decide (t.ctrl.walker = .heldQueue)) takeAndRelease) s

/-- A host read that meets the raises of a frame end: a claim, as EV_CLAIM makes it, or a read of EV_PENDING
or EV_SERVICE, which changes nothing (R132, R138, R139). -/
def takeRead (s : State) : EventRead → State
  | .claim => hostRead 0x18 claim s
  | .pending => hostRead 0x1A id s
  | .service => hostRead 0x1B id s

/-- Such reads, one after another. -/
def takeReads (reads : List EventRead) (s : State) : State := reads.foldl takeRead s

/-- A frame end with the host reads that meet its raises (R175, R176). -/
def meetFrameEnd (s : State) : State :=
  endFrame (takeReads (nextMeeting s).afterFrameEnd) (takeReads (nextMeeting s).afterSwap) (takeMeeting s)

/-- FRAME_END (R40, R175, R176). -/
def execFrameEnd (s : State) : Answer := running (when frameEndDue meetFrameEnd) s

/-- A lane in READY_WAIT samples LnRDY (R57). -/
def sampleReady (n : Fin 4) (rdy : Bool) (s : State) : State :=
  match (s.lanes[n]).phase with
  | .readyWait it _ => if readyActive (s.lanes[n]).cfg rdy then setPhase n (.shifting it) s else s
  | .disabled => s
  | .idle => s
  | .shifting _ => s
  | .gap _ _ => s
  | .pausing _ _ => s
  | .halted => s

/-- READY_SEEN (R57). -/
def execReadySeen (lane : Fin 4) (rdy : Bool) (s : State) : Answer := running (sampleReady lane rdy) s

/-! ### Ticks as rows take them -/

/-- What follows in the moment of a tick: a lane counts it late (R114), or the release of the held entry or the
frame end is taken as its row takes it, where it is due (R35, R40). -/
def lateStep (s : State) : LateStep → State
  | .count n => lateCount finishItem s n
  | .release => when (fun t => decide (t.ctrl.walker = .heldQueue)) takeAndRelease s
  | .frameEnd => when frameEndDue meetFrameEnd s

/-- A whole tick with the timer first, and what follows in its moment (R112, R114, R116, R117, R57, R63). -/
def tickTaken (s : State) : State := (nextMeeting s).late.foldl lateStep (tickTimerFirst finishItem s)

/-- A due frame end that comes before a trigger of the same moment, and one that the frame it starts makes due
at once, where it comes first too (R26). A third is not due, since the second one finds deferred clear. -/
def frameEndsBefore (s : State) : State :=
  let t := meetFrameEnd s
  if (nextMeeting s).endsAgain then when frameEndDue meetFrameEnd t else t

/-- The frame end that comes before a trigger of the same moment (R26): one that is due, or that the release
of the held entry makes due, where a lane has halted (R35, R67). -/
def frameEndFirst (s : State) : State :=
  let t := when (fun u => decide (u.ctrl.walker = .heldQueue)) takeAndRelease s
  if frameEndDue t then frameEndsBefore t else s

/-- A whole tick with lane `n` first: the counts, the end of that lane's wait, those of the other lanes in the
tick's order, what follows in its moment, and last the timer's trigger with what follows that (R114, log entry 5).
Where the timer expires, its action stands at the counts, and a frame end that the lanes' ends have led to comes
before the trigger (R26); one that enters STOPPED halts the timer at the count it was reloaded with, and the
trigger is ignored (R118). -/
def tickLaneFirst (n : Fin 4) (s : State) : State :=
  let m := nextMeeting s
  let t := takeTick (takeMeeting s)
  let lanes := n :: (endedLanes m.order t).filter fun k => decide (k ≠ n)
  if s.timer.expiresNext then
    m.lateAfter.foldl lateStep
      (takeTrigger (frameEndFirst (m.late.foldl lateStep (expireLanes finishItem lanes (actAtExpiry t)))))
  else m.late.foldl lateStep (expireLanes finishItem lanes t)

/-- READY_TIMEOUT: the ready-timeout-th tick of the lane's wait, taken by every user (R57, R112); it arises
only where that tick comes next (log entry 2). -/
def execReadyTimeout (lane : Fin 4) (s : State) : Answer :=
  running (when (fun t => timeoutReached lane (takeTick t)) (tickLaneFirst lane)) s

/-- SHIFT_END (R61), with the end of a gap of 0 (R62). -/
def execShiftEnd (lane : Fin 4) (din : BitVec 64) (s : State) : Answer :=
  running (endShifting finishItem lane din) s

/-- GAP_END (R62). -/
def execGapEnd (lane : Fin 4) (s : State) : Answer := running (endGap finishItem lane) s

/-- PAUSE_EXPIRY: the duration-th tick of the lane's pause, taken by every user (R63, R112); it arises only
where that tick comes next (log entry 2). -/
def execPauseExpiry (lane : Fin 4) (s : State) : Answer :=
  running (when (fun t => pauseReached lane (takeTick t)) (tickLaneFirst lane)) s

end Sys2Proof.Machine
end

