-- ==== Sys2Proof/Machine/MirrorEvents.lean ====
section
/-! DEFINITION. The meanings of the events of the mirror port (chapter 8). -/

namespace Sys2Proof.Machine

/-- MSEL is asserted (R144, R146); no assertion arises while it is asserted. -/
def execMselAssert (mclk : Bool) (s : State) : Answer :=
  running (when (fun t => !t.mirror.mselAsserted) (fun t => setMirror (t.mirror.assertSelect mclk) t)) s

/-- MSEL is deasserted (R148, R157); no deassertion arises while it is deasserted. -/
def execMselDeassert (s : State) : Answer :=
  running (when (fun t => t.mirror.mselAsserted) (fun t => setMirror t.mirror.releaseSelect t)) s

/-- READ_SLOT at request complete (R149). -/
def execReadSlot (slot : Byte) (s : State) : Answer := running (receiveRequest codeReadSlot slot) s

/-- READ_RUN at request complete (R150). -/
def execReadRun (slot : Byte) (s : State) : Answer := running (receiveRequest codeReadRun slot) s

/-- The next record of a READ_RUN begins (R150). -/
def execReadRunNextRecord (s : State) : Answer := running (when (fun t => t.mirror.inRun) nextRunRecord) s

/-- READ_STATE at request complete (R151). -/
def execReadState (s : State) : Answer := running (receiveRequest codeReadState 0) s

/-- PEEK_ALERT at request complete (R152). -/
def execPeekAlert (s : State) : Answer := running (receiveRequest codePeekAlert 0) s

/-- ACK_ALERT at request complete (R152, R106). -/
def execAckAlert (serial : Byte) (s : State) : Answer := running (receiveRequest codeAckAlert serial) s

/-- POST_NOTE at request complete (R153). -/
def execPostNote (note : Byte) (s : State) : Answer := running (receiveRequest codePostNote note) s

/-- The byte is one of the six command codes of 11.3. -/
def isCommandByte (command : Byte) : Bool :=
  takesArgument command || decide (command = codeReadState) || decide (command = codePeekAlert)

/-- A command byte that holds no code, at request complete (R155); it does not arise for a byte that is
a code. -/
def execMirrorUnknownCommand (command : Byte) (s : State) : Answer :=
  running (when (fun _ => !isCommandByte command) (receiveRequest command 0)) s

/-- A sample of MCLK and MDI (R145, R147). -/
def execMclkEdge (level mdi : Bool) (s : State) : Answer := running (mclkSample level mdi) s

end Sys2Proof.Machine
end

