-- ==== Sys2Proof/Machine/TimeEvents.lean ====
section
/-! DEFINITION. The meanings of the tick, the timer expiry and the FTRIG sample (chapter 6). -/

namespace Sys2Proof.Machine

/-- A tick with all that it brings about (R112, R114, R116, R117, R57, R63). -/
def execTick (s : State) : Answer := running tickTaken s

/-- The tick that brings the count from 1 to 0, a whole tick as TICK is (R117, R112); a timer that is not
at 1 has none (log entry 2). -/
def execTimerExpiry (s : State) : Answer :=
  running (when (fun t => t.timer.expiresNext) tickTaken) s

/-- The sample is an edge in the selected direction (R120). -/
def selectedEdge (t : Timebase) (level : Bool) : Bool :=
  decide (level ≠ t.ftrig) && decide (level ≠ t.fallingEdge)

/-- A sample of FTRIG: the detector keeps the level, and a selected edge in EXTERNAL mode delivers one
trigger, which a STOPPED controller ignores (R120, R24). -/
def sampleFtrig (level : Bool) (s : State) : State :=
  let kept := { s with timer := { s.timer with ftrig := level } }
  if decide (s.timer.mode = .external) && selectedEdge s.timer level then takeTrigger kept else kept

/-- A sample of FTRIG (R120). -/
def execFtrigEdge (level : Bool) (s : State) : Answer := running (sampleFtrig level) s

end Sys2Proof.Machine
end

