-- ==== Sys2Proof/Machine/Commands.lean ====
section
/-! DEFINITION. The COMMAND register with its twelve commands (9.4), and the writes of every register by its
address (R160). -/

namespace Sys2Proof.Machine

/-! ### Commands (9.4) -/

/-- CMD_RESULT takes a result; the index is 0 but for REFUSED_BANK (R168). -/
def setResult (r : CmdResult) (i : Fin 64) (s : State) : State :=
  { s with window := { s.window with result := r, resultIndex := i } }

/-- A command that was accepted, after its effect. -/
def accepted (s : State) : State := setResult .accepted 0 s

/-- START (R43). -/
def commandStart (s : State) : State :=
  if s.ctrl.state = .stopped then
    accepted { s with ctrl := { s.ctrl with state := .waiting }, timer := s.timer.load }
  else setResult .refusedState 0 s

/-- STOP (R44); in WAITING an expiring tick may meet it (R118). -/
def commandStop (s : State) : State :=
  accepted
    (match s.ctrl.state with
    | .stopped => s
    | .waiting => stopWaiting (nextMeeting s).tickFirst (takeMeeting s)
    | .active => { s with ctrl := { s.ctrl with stopPending := true } })

/-- ABORT (R45): in ACTIVE the walker drains and each lane takes the abort request (R70). The lane events that meet
it are taken before it, or after it and before the requests (R46, R71); where no request is sent, there is no
between; in WAITING an expiring tick may meet it (R118). What meets it may give a lane its request before the rest,
so that an event, a tick too, falls between any two of the four; the lanes that it leaves out take theirs last,
lane 0 first, and a second request finds an IDLE lane with nothing to abort. That all four come in this step is the
model's (log entries 18, 34). -/
def commandAbort (s : State) : State :=
  let m := nextMeeting s
  let t := m.before.foldl laneEnd (takeMeeting s)
  accepted
    (match t.ctrl.state with
    | .stopped => t
    | .waiting => stopWaiting m.tickFirst t
    | .active =>
      allLanes.foldl abortLane
        (m.between.foldl abortStep
          { t with ctrl := { t.ctrl with stopPending := true, abortMark := true, walker := .draining } }))

/-- TRIGGER (R47). -/
def commandTrigger (s : State) : State := accepted (takeTrigger s)

/-- COMMIT (R15). -/
def commandCommit (s : State) : State :=
  if s.ctrl.commitPending then setResult .refusedState 0 s
  else
    match firstInvalid (stagedBank s) with
    | some i => setResult .refusedBank i s
    | none =>
      if s.ctrl.state = .stopped then accepted (swapBanks s)
      else accepted { s with ctrl := { s.ctrl with commitPending := true } }

/-- CANCEL_COMMIT (R18). -/
def commandCancelCommit (s : State) : State :=
  accepted { s with ctrl := { s.ctrl with commitPending := false } }

/-- A HALTED lane enters IDLE (R68). -/
def Lane.clearHalt (l : Lane) : Lane := { l with phase := if l.phase = .halted then .idle else l.phase }

/-- CLEAR_LANE of the lane in CMD_ARG (R68). -/
def commandClearLane (s : State) : State :=
  if h : s.window.cmdArg.toNat < 4 then
    let n : Fin 4 := ⟨s.window.cmdArg.toNat, h⟩
    accepted (setLane n (s.lanes[n]).clearHalt s)
  else setResult .refusedArg 0 s

/-- CLEAR_SLOT of the slot in CMD_ARG (R91). -/
def commandClearSlot (s : State) : State :=
  if h : s.window.cmdArg.toNat < 64 then accepted (setSlot ⟨s.window.cmdArg.toNat, h⟩ .cleared s)
  else setResult .refusedArg 0 s

/-- CLEAR_OVERRUN (R25). -/
def commandClearOverrun (s : State) : State := accepted { s with ctrl := { s.ctrl with overruns := 0 } }

/-- CLEAR_SCHEDULE_ERROR (R33). -/
def commandClearScheduleError (s : State) : State :=
  accepted { s with ctrl := { s.ctrl with schedError := none, schedRepeat := false } }

/-- CLEAR_ALERT_LOST (R109). -/
def commandClearAlertLost (s : State) : State := accepted { s with alerts := { s.alerts with lost := false } }

/-- An event as its block takes it: the row that stands for it (chapters 2, 3, 6 and 8). A row of the host or of
a reset is none. -/
def eventRow (s : State) (c : Instr) : State :=
  stateOf s (match c with
    | .timerExpiry => execTimerExpiry s
    | .ftrigEdge level => execFtrigEdge level s
    | .heldQueueRelease => execHeldQueueRelease s
    | .frameEnd => execFrameEnd s
    | .readySeen lane rdy => execReadySeen lane rdy s
    | .readyTimeout lane => execReadyTimeout lane s
    | .shiftEnd lane din => execShiftEnd lane din s
    | .gapEnd lane => execGapEnd lane s
    | .pauseExpiry lane => execPauseExpiry lane s
    | .tick => execTick s
    | .mselAssert mclk => execMselAssert mclk s
    | .mselDeassert => execMselDeassert s
    | .readSlot slot => execReadSlot slot s
    | .readRun slot => execReadRun slot s
    | .readRunNextRecord => execReadRunNextRecord s
    | .readState => execReadState s
    | .peekAlert => execPeekAlert s
    | .ackAlert serial => execAckAlert serial s
    | .postNote note => execPostNote note s
    | .mirrorUnknownCommand command => execMirrorUnknownCommand command s
    | .mclkEdge level mdi => execMclkEdge level mdi s
    | _ => .next s)

/-- The events whose raises meet a SOFT_RESET, taken by their blocks just before it with nothing else meeting them;
the pending set is then that of the raises that reach the event controller after the reset (R142). The raises arrive
in the order of the rows: those of the first row that come after the reset are the sources of `keep`, the rest of
that row comes before it, and every later row's raises come after it. A completion reaches every receiver before the
reset, so what it raises does too (R66, R72). -/
def meetSoftReset (m : Meeting) (s : State) : State :=
  let quiet := { s with meetings := [], events := { s.events with edges := 0 } }
  let first := (m.rows.take 1).foldl eventRow quiet
  keepEdges (~~~ completionSources) ((m.rows.drop 1).foldl eventRow (keepEdges (inRaiseOrder m.keep) first))

/-- SOFT_RESET (R170). The raises that meet it and reach the event controller after it are kept, as ordinary raises
under the masks, which the reset keeps (R142, log entries 34, 35). The raise of a host access meets no SOFT_RESET,
which sees every effect of the access before it (R159). -/
def commandSoftReset (s : State) : State :=
  let t := meetSoftReset (nextMeeting s) s
  let u := softReset { t with meetings := s.meetings.tail }
  { u with events := { u.events with edges := t.events.edges } }

/-- A host write of COMMAND: one of the twelve codes of 11.4, or REFUSED_CODE (R167). -/
def writeCommand (v : Word) (s : State) : State :=
  match v.toNat with
  | 0x1 => commandStart s
  | 0x2 => commandStop s
  | 0x3 => commandAbort s
  | 0x4 => commandTrigger s
  | 0x5 => commandCommit s
  | 0x6 => commandCancelCommit s
  | 0x7 => commandClearLane s
  | 0x8 => commandClearSlot s
  | 0x9 => commandClearOverrun s
  | 0xA => commandClearScheduleError s
  | 0xB => commandClearAlertLost s
  | 0xC => commandSoftReset s
  | _ => setResult .refusedCode 0 s

/-! ### Host writes by address (R160) -/

/-- A host write of any register: a register of type R refuses it, every other passes it to its owner
(R160). -/
def writeRegister (a : BitVec 5) (v : Word) (s : State) : State :=
  match a.toNat with
  | 0x02 => writeCommand v s
  | 0x03 => { s with window := { s.window with cmdArg := v } }
  | 0x04 => clearAccessError s
  | 0x07 => writeTimerMode v s
  | 0x08 => writeTimerDiv v s
  | 0x09 => { s with timer := s.timer.writePeriod v }
  | 0x0B => writeTableSel v s
  | 0x0C => { s with window := { s.window with tableAddr := v } }
  | 0x0D => writeTableData v s
  | 0x0E => writeSampleSel (v.extractLsb' 0 8) (v.getLsbD 15) s
  | 0x17 => writeAlertAck v s
  | 0x18 => writeDone v s
  | 0x19 => writeThreshold v s
  | 0x1C => raise srcSoftware s
  | 0x1E => setMirror { s.mirror with cfg := mirrorConfigOfWord v } s
  | _ => refuseWrite .readOnlyTarget a s

end Sys2Proof.Machine
end

