-- ==== Sys2Proof/Machine/RunControl.lean ====
section
/-! DEFINITION. The meanings of the host commands: COMMAND writes (9.4), one definition a row. -/

namespace Sys2Proof.Machine

/-- START (R43). -/
def execStart (s : State) : Answer := running commandStart s

/-- STOP (R44). -/
def execStop (s : State) : Answer := running commandStop s

/-- ABORT, with the lane events that meet it (R45, R46, R70, R71). -/
def execAbort (s : State) : Answer := running commandAbort s

/-- TRIGGER (R47). -/
def execTrigger (s : State) : Answer := running commandTrigger s

/-- COMMIT (R15). -/
def execCommit (s : State) : Answer := running commandCommit s

/-- CANCEL_COMMIT (R18). -/
def execCancelCommit (s : State) : Answer := running commandCancelCommit s

/-- CLEAR_LANE (R68). -/
def execClearLane (s : State) : Answer := running commandClearLane s

/-- CLEAR_SLOT (R91). -/
def execClearSlot (s : State) : Answer := running commandClearSlot s

/-- CLEAR_OVERRUN (R25). -/
def execClearOverrun (s : State) : Answer := running commandClearOverrun s

/-- CLEAR_SCHEDULE_ERROR (R33). -/
def execClearScheduleError (s : State) : Answer := running commandClearScheduleError s

/-- CLEAR_ALERT_LOST (R109). -/
def execClearAlertLost (s : State) : Answer := running commandClearAlertLost s

/-- SOFT_RESET, with the events whose raises meet it (R170, R142). -/
def execSoftReset (s : State) : Answer := running commandSoftReset s

/-- A COMMAND write of a value that is no code: REFUSED_CODE, and no block is reached (R167). A value
that is a code is that command (log entry 15). -/
def execUndefinedCommandCode (value : Word) (s : State) : Answer := running (writeCommand value) s

end Sys2Proof.Machine
end

