-- ==== Sys2Proof/Machine/HostAccess.lean ====
section
/-! DEFINITION. The meanings of the host accesses that are rows of their own, and of REGISTER_WRITE
(chapters 4, 5, 7 and 9). -/

namespace Sys2Proof.Machine

/-- A read of EV_CLAIM (R132, R133). -/
def execEvClaim (s : State) : Answer := running (hostRead 0x18 claim) s

/-- A write of EV_DONE (R135). -/
def execEvDone (value : Word) (s : State) : Answer := running (writeDone value) s

/-- A write of EV_RAISE, whatever its value (R137). -/
def execEvRaise (_value : Word) (s : State) : Answer := running (raise srcSoftware) s

/-- A write of EV_THRESH (R131). -/
def execEvThreshWrite (value : Word) (s : State) : Answer := running (writeThreshold value) s

/-- A read of ALERT_W0 (R105). -/
def execHostAlertPeek (s : State) : Answer := running (hostRead 0x13 peekAlert) s

/-- A write of ALERT_ACK (R106). -/
def execAlertAck (value : Word) (s : State) : Answer := running (writeAlertAck value) s

/-- A read of MIRROR_NOTE (R154). -/
def execMirrorNoteRead (s : State) : Answer := running (hostRead 0x1F readNote) s

/-- A write of SAMPLE_SEL with consume set (R87). -/
def execSampleSnapshotConsume (slot : Byte) (s : State) : Answer := running (writeSampleSel slot true) s

/-- A write of SAMPLE_SEL with consume clear (R86). -/
def execSamplePeek (slot : Byte) (s : State) : Answer := running (writeSampleSel slot false) s

/-- A read of TABLE_DATA (R164). -/
def execTableDataRead (s : State) : Answer := running (hostRead 0x0D tableRead) s

/-- A write of TABLE_DATA where TABLE_SEL is 0 (R13); elsewhere the selected table's rule (log entry
14). -/
def execStagedBankWrite (value : Word) (s : State) : Answer := running (writeTableData value) s

/-- A write of TABLE_DATA where TABLE_SEL is 2 (R96); elsewhere the selected table's rule. -/
def execSlotConfigWrite (value : Word) (s : State) : Answer := running (writeTableData value) s

/-- A write of TABLE_DATA where TABLE_SEL is 3 (R50, R51, R52); elsewhere the selected table's rule. -/
def execLaneConfigWrite (value : Word) (s : State) : Answer := running (writeTableData value) s

/-- A write of TABLE_DATA where TABLE_SEL is 4 (R124, R127); elsewhere the selected table's rule. -/
def execSourceConfigWrite (value : Word) (s : State) : Answer := running (writeTableData value) s

/-- A write of TABLE_SEL (R163). -/
def execTableSelWrite (value : Word) (s : State) : Answer := running (writeTableSel value) s

/-- A write of TIMER_MODE (R115). -/
def execTimerModeWrite (value : Word) (s : State) : Answer := running (writeTimerMode value) s

/-- A write of TIMER_DIV (R113). -/
def execTimerDivWrite (value : Word) (s : State) : Answer := running (writeTimerDiv value) s

/-- A write of TIMER_PERIOD (R119). -/
def execTimerPeriodWrite (value : Word) (s : State) : Answer :=
  running (fun t => { t with timer := t.timer.writePeriod value }) s

/-- A write of ACCESS_ERR, whatever its value (R173). -/
def execAccessErrWrite (_value : Word) (s : State) : Answer := running clearAccessError s

/-- A host write of the register at an address (R160, R163, R169, R144). -/
def execRegisterWrite (addr : BitVec 5) (value : Word) (s : State) : Answer :=
  running (writeRegister addr value) s

end Sys2Proof.Machine
end

