-- ==== Sys2Proof/Machine/ResetEvents.lean ====
section
/-! DEFINITION. The meanings of power-on reset and of its release (R180). -/

namespace Sys2Proof.Machine

/-- Power is applied or RESET is sampled low: every block is in its power-on state until the release
(R180, R73, R142, R158, R174). -/
def execPowerOnReset (s : State) : Answer := .next (powerOn s)

/-- The device as the release finds it: the timebase starts, the FTRIG detector has its first sample,
and a selection held on MSEL is ignored until its end (R112, R122, R158, R180). -/
def release (ftrig mselAsserted : Bool) (s : State) : State :=
  { s with
    inReset := false, timer := { s.timer with ftrig := ftrig, tickPhase := 0 }
    mirror := { s.mirror with mselAsserted := mselAsserted } }

/-- The first rising CLKIN edge that samples RESET high (R180); it does not arise outside power-on
reset. -/
def execResetRelease (ftrig mselAsserted : Bool) (s : State) : Answer :=
  .next (when (fun t => t.inReset) (release ftrig mselAsserted) s)

end Sys2Proof.Machine
end

