-- ==== Sys2Proof/Machine/Dispatch.lean ====
section
/-! DEFINITION. Which meaning each command has. -/

namespace Sys2Proof.Machine

def exec (i : Instr) (s : State) : Host.Outcome State Fault Refusal :=
  match i with
  | .start => Sys2Proof.Machine.execStart s
  | .stop => Sys2Proof.Machine.execStop s
  | .abort => Sys2Proof.Machine.execAbort s
  | .trigger => Sys2Proof.Machine.execTrigger s
  | .commit => Sys2Proof.Machine.execCommit s
  | .cancelCommit => Sys2Proof.Machine.execCancelCommit s
  | .clearLane => Sys2Proof.Machine.execClearLane s
  | .clearSlot => Sys2Proof.Machine.execClearSlot s
  | .clearOverrun => Sys2Proof.Machine.execClearOverrun s
  | .clearScheduleError => Sys2Proof.Machine.execClearScheduleError s
  | .clearAlertLost => Sys2Proof.Machine.execClearAlertLost s
  | .softReset => Sys2Proof.Machine.execSoftReset s
  | .undefinedCommandCode value => Sys2Proof.Machine.execUndefinedCommandCode value s
  | .powerOnReset => Sys2Proof.Machine.execPowerOnReset s
  | .timerExpiry => Sys2Proof.Machine.execTimerExpiry s
  | .ftrigEdge level => Sys2Proof.Machine.execFtrigEdge level s
  | .heldQueueRelease => Sys2Proof.Machine.execHeldQueueRelease s
  | .frameEnd => Sys2Proof.Machine.execFrameEnd s
  | .readySeen lane rdy => Sys2Proof.Machine.execReadySeen lane rdy s
  | .readyTimeout lane => Sys2Proof.Machine.execReadyTimeout lane s
  | .shiftEnd lane din => Sys2Proof.Machine.execShiftEnd lane din s
  | .gapEnd lane => Sys2Proof.Machine.execGapEnd lane s
  | .pauseExpiry lane => Sys2Proof.Machine.execPauseExpiry lane s
  | .evClaim => Sys2Proof.Machine.execEvClaim s
  | .evDone value => Sys2Proof.Machine.execEvDone value s
  | .evRaise value => Sys2Proof.Machine.execEvRaise value s
  | .evThreshWrite value => Sys2Proof.Machine.execEvThreshWrite value s
  | .hostAlertPeek => Sys2Proof.Machine.execHostAlertPeek s
  | .alertAck value => Sys2Proof.Machine.execAlertAck value s
  | .mirrorNoteRead => Sys2Proof.Machine.execMirrorNoteRead s
  | .sampleSnapshotConsume slot => Sys2Proof.Machine.execSampleSnapshotConsume slot s
  | .samplePeek slot => Sys2Proof.Machine.execSamplePeek slot s
  | .tableDataRead => Sys2Proof.Machine.execTableDataRead s
  | .stagedBankWrite value => Sys2Proof.Machine.execStagedBankWrite value s
  | .slotConfigWrite value => Sys2Proof.Machine.execSlotConfigWrite value s
  | .laneConfigWrite value => Sys2Proof.Machine.execLaneConfigWrite value s
  | .sourceConfigWrite value => Sys2Proof.Machine.execSourceConfigWrite value s
  | .tableSelWrite value => Sys2Proof.Machine.execTableSelWrite value s
  | .timerModeWrite value => Sys2Proof.Machine.execTimerModeWrite value s
  | .timerDivWrite value => Sys2Proof.Machine.execTimerDivWrite value s
  | .timerPeriodWrite value => Sys2Proof.Machine.execTimerPeriodWrite value s
  | .accessErrWrite value => Sys2Proof.Machine.execAccessErrWrite value s
  | .registerWrite addr value => Sys2Proof.Machine.execRegisterWrite addr value s
  | .mselAssert mclk => Sys2Proof.Machine.execMselAssert mclk s
  | .mselDeassert => Sys2Proof.Machine.execMselDeassert s
  | .readSlot slot => Sys2Proof.Machine.execReadSlot slot s
  | .readRun slot => Sys2Proof.Machine.execReadRun slot s
  | .readRunNextRecord => Sys2Proof.Machine.execReadRunNextRecord s
  | .readState => Sys2Proof.Machine.execReadState s
  | .peekAlert => Sys2Proof.Machine.execPeekAlert s
  | .ackAlert serial => Sys2Proof.Machine.execAckAlert serial s
  | .postNote note => Sys2Proof.Machine.execPostNote note s
  | .mirrorUnknownCommand command => Sys2Proof.Machine.execMirrorUnknownCommand command s
  | .tick => Sys2Proof.Machine.execTick s
  | .mclkEdge level mdi => Sys2Proof.Machine.execMclkEdge level mdi s
  | .resetRelease ftrig mselAsserted => Sys2Proof.Machine.execResetRelease ftrig mselAsserted s

end Sys2Proof.Machine
end

