-- ==== Sys2Proof/Safety.lean ====
section
/-! DEFINITION. The terms in which the claims speak: what the manual says of the device at every moment
between two steps, as one predicate for each block, and the request bytes and MCLK samples of the mirror
rows. -/

namespace Sys2Proof.Machine

/-- The device is out of power-on reset (R159, R180). -/
def Running (s : State) : Prop := s.inReset = false

/-- The walker stands still: the walk of a step runs to its hold or its end (log entry 3). -/
def AtRest (s : State) : Prop := s.ctrl.walker ≠ .issuing

/-! ### Boundaries of a frame, each as one record (R16, R27, R41) -/

/-- The bank selector and the pending set after a boundary that carries out a pending commit (R16). -/
def selectorAfterSwap (c : Ctrl) : BankName :=
  if c.commitPending then (match c.active with | .a => .b | .b => .a) else c.active

/-- The event controller after that boundary: BANK_SWAP raised where a commit was pending (R16). -/
def eventsAfterSwap (s : State) : Events :=
  if s.ctrl.commitPending then s.events.raise srcBankSwap else s.events

/-- What entry to STOPPED leaves (R41). -/
def stoppedFrom (s : State) : State :=
  { s with
    ctrl := { s.ctrl with
      state := .stopped, walker := .idle, stopPending := false, deferred := false, abortMark := false
      commitPending := false, active := selectorAfterSwap s.ctrl }
    timer := { s.timer with counting := false }
    events := (eventsAfterSwap s).raise srcControllerStopped }

/-- The state after the swap of such a boundary (R16). -/
def swapMade (s : State) : State :=
  { s with
    ctrl := { s.ctrl with commitPending := false, active := selectorAfterSwap s.ctrl }
    events := eventsAfterSwap s }

/-- What the five steps of a frame start leave, the walk not begun (R27). -/
def frameBegun (s : State) : State :=
  { s with
    ctrl := { s.ctrl with
      state := .active, walker := .issuing, position := 0, window := none, abortMark := false
      commitPending := false, active := selectorAfterSwap s.ctrl, frame := s.ctrl.frame + 1
      current := {
        frame := s.ctrl.frame + 1, outcome := .inProgress, due := 0, issued := 0, completed := 0
        faulted := 0, laneSkipped := 0, aborted := 0, gateSkipped := 0, rejected := 0 } }
    events := (eventsAfterSwap s).raise srcFrameStart }

/-- What a frame end leaves before it goes on: the report closed and copied, FRAME_END raised (R40,
steps 1 to 3). -/
def reportClosed (s : State) : State :=
  let r := { s.ctrl.current with outcome := if s.ctrl.abortMark then .aborted else .complete }
  { s with ctrl := { s.ctrl with current := r, last := r }, events := s.events.raise srcFrameEnd }

/-- The controller as it goes on to the next index, or finishes the walk past index 63 (R30). -/
def wentOn (c : Ctrl) : Ctrl :=
  if h : c.position.val < 63 then { c with walker := .issuing, position := ⟨c.position.val + 1, by omega⟩ }
  else { c with walker := .draining }

/-- The window that a gate's fail at index `g` leaves: the `skip` indices after it, cut off at 63 (R37). -/
def FailWindow (g : Fin 64) (e : Entry) (w : Option SkipWindow) : Prop :=
  ∀ i : Fin 64, (∃ x, w = some x ∧ x.first ≤ i ∧ i ≤ x.last) ↔
    g.val + 1 ≤ i.val ∧ i.val ≤ g.val + e.skip.toNat

/-- The next tick ends no wait and no pause on a lane that `only` leaves out. -/
def WaitsGoOn (only : Fin 4 → Prop) (s : State) : Prop :=
  ∀ m : Fin 4, ¬ only m →
    (∀ it k, (s.lanes[m]).phase = .readyWait it k → k + 1 < (s.lanes[m]).cfg.readyTimeout.toNat) ∧
    ∀ it k, (s.lanes[m]).phase = .pausing it k → k + 1 < it.duration.toNat

/-- The next tick brings neither the timer's expiry nor the end of such a wait. -/
def TickEndsOnly (only : Fin 4 → Prop) (s : State) : Prop :=
  (s.timer.counting = true → s.timer.count ≠ 1) ∧ WaitsGoOn only s

/-- The outcome with which an item in progress ends, the row that ends it, the state in which its completion is
handed on, and what follows in the moment of the row: the end of a gap, the end of shifting with a gap of 0, or
the last tick of a wait or pause, which is counted first and ends nothing else (R57, R61, R62, R63, R112, R114). -/
def EndsWith (n : Fin 4) (s : State) (it : Item) (o : ItemOutcome) (c : Instr) (u : State)
    (late : List LateStep) : Prop :=
  ((s.lanes[n]).phase = .gap it o ∧ c = .gapEnd n ∧ u = s ∧ late = []) ∨
  (∃ din, (s.lanes[n]).phase = .shifting it ∧ (s.lanes[n]).cfg.gap = 0 ∧
    o = shiftOutcome (s.lanes[n]).cfg it din ∧ c = .shiftEnd n din ∧ u = s ∧ late = []) ∨
  (∃ k, (s.lanes[n]).phase = .readyWait it k ∧ (s.lanes[n]).cfg.readyTimeout.toNat ≤ k + 1 ∧
    o = .fault .readyTimeout ∧ (c = .readyTimeout n ∨ c = .tick) ∧ TickEndsOnly (· = n) s ∧
    u = takeTick { s with meetings := s.meetings.tail } ∧ late = (s.meetings.headD .nothing).late) ∨
  (∃ k, (s.lanes[n]).phase = .pausing it k ∧ it.duration.toNat ≤ k + 1 ∧
    o = .completed 0 ∧ (c = .pauseExpiry n ∨ c = .tick) ∧ TickEndsOnly (· = n) s ∧
    u = takeTick { s with meetings := s.meetings.tail } ∧ late = (s.meetings.headD .nothing).late)

/-- The number of words of a table by its selector (9.3). -/
def wordsOf : Table → Nat
  | .staged | .active | .slotConfig => 512
  | .laneConfig | .sourceConfig | .reports => 16
  | .latches => 8

/-! ### Controller states, flags, timer (R21, R22, R116, R117) -/

/-- What R21 and R22 say of the three states and of the abort mark, what chapter 6 says of a timer that
counts, and that the walker rests between steps. -/
structure ModesLegal (s : State) : Prop where
  rest     : AtRest s
  stopped  : s.ctrl.state = .stopped → s.ctrl.walker = .idle ∧ s.ctrl.stopPending = false ∧
    s.ctrl.deferred = false ∧ s.ctrl.abortMark = false ∧ s.ctrl.commitPending = false ∧
    s.timer.counting = false
  waiting  : s.ctrl.state = .waiting → s.ctrl.walker = .idle ∧ s.ctrl.stopPending = false ∧
    s.ctrl.deferred = false ∧ s.ctrl.abortMark = false
  active   : s.ctrl.state = .active → s.ctrl.walker ≠ .idle
  aborting : s.ctrl.abortMark = true → s.ctrl.stopPending = true ∧ s.ctrl.walker = .draining
  counting : s.timer.counting = true →
    (s.timer.mode = .periodic ∨ s.timer.mode = .oneShot) ∧ s.timer.count ≠ 0

/-! ### Banks (R11, R16, R17) -/

/-- Every check of R14 that applies to the entry's kind holds, said field by field. -/
def EntrySound (e : Entry) : Prop :=
  (e.kind = some .empty ∨ e.kind = some .endWalk) ∨
  (e.kind = some .exchange ∧ e.outLen.toNat ≤ 32 ∧ 1 ≤ e.inLen.toNat ∧ e.inLen.toNat ≤ 32 ∧
    e.extShift.toNat + e.extWidth ≤ e.inLen.toNat ∧ e.phase.toNat < 2 ^ e.rate.toNat) ∨
  (e.kind = some .write ∧ 1 ≤ e.outLen.toNat ∧ e.outLen.toNat ≤ 32 ∧ e.inLen.toNat = 0 ∧
    e.phase.toNat < 2 ^ e.rate.toNat) ∨
  (e.kind = some .gate ∧ e.outLen.toNat ≤ 32 ∧ 1 ≤ e.inLen.toNat ∧ e.inLen.toNat ≤ 32 ∧
    e.phase.toNat < 2 ^ e.rate.toNat ∧ 1 ≤ e.skip.toNat) ∨
  (e.kind = some .pause ∧ e.phase.toNat < 2 ^ e.rate.toNat ∧ 1 ≤ e.duration.toNat)

/-- Validation finds the bank sound (R14). -/
def BankSound (b : Bank) : Prop := ∀ i : Fin 64, EntrySound b[i]

/-- The active bank has passed validation, and so has a staged bank whose commit is pending (R16, R17). -/
structure BanksLegal (s : State) : Prop where
  active : BankSound (activeBank s)
  staged : s.ctrl.commitPending = true → BankSound (stagedBank s)

/-! ### Lanes (R49, R51, R54, R67) -/

/-- A lane's configuration lies in the ranges of R49, it is DISABLED exactly when it is not enabled, at
most four items wait, and none waits where none is in progress. -/
structure LaneLegal (l : Lane) : Prop where
  divider  : 2 ≤ l.cfg.divider.toNat ∧ l.cfg.divider.toNat ≤ 1024 ∧ l.cfg.divider.toNat % 2 = 0
  timeout  : 1 ≤ l.cfg.readyTimeout.toNat
  disabled : l.phase = .disabled ↔ l.cfg.enable = false
  room     : l.queue.length ≤ 4
  idle     : l.phase.item = none → l.queue = []

/-- The entry that a walker in HELD_QUEUE holds is due, outside the window, and has passed the runtime
checks, in a frame (R35). -/
def HeldLegal (s : State) : Prop :=
  s.ctrl.walker = .heldQueue → s.ctrl.state = .active ∧ ∃ k : ItemKind,
    ((activeBank s)[s.ctrl.position]).itemKind = some k ∧
    entryDue (activeBank s)[s.ctrl.position] s.ctrl.frame = true ∧
    s.ctrl.inWindow s.ctrl.position = false ∧
    rejectReason (s.lanes[((activeBank s)[s.ctrl.position]).lane]).cfg k
      (activeBank s)[s.ctrl.position] = none

/-- Every lane is legal, and so are the modes and the held entry. -/
structure LanesLegal (s : State) : Prop where
  modes : ModesLegal s
  lane  : ∀ n : Fin 4, LaneLegal s.lanes[n]
  held  : HeldLegal s

/-! ### The frame in progress (R28, R39) -/

/-- The number of items on the four lanes, waiting or in progress. -/
def itemsHeld (s : State) : Nat := (s.lanes.toList.map fun l => l.items.length).sum

/-- The identities of R39 for the current report: due is issued, gate-skipped and rejected; issued is the
four outcomes and the items still held; due never exceeds the entries reached; and no wait or pause
outlasts its ticks (R57, R63). -/
structure FrameLegal (s : State) : Prop where
  modes   : ModesLegal s
  number  : s.ctrl.current.frame = s.ctrl.frame
  outside : s.ctrl.state ≠ .active → itemsHeld s = 0
  items   : ∀ n : Fin 4, ∀ it ∈ (s.lanes[n]).items, it.frame = s.ctrl.frame
  due     : s.ctrl.current.due =
    s.ctrl.current.issued + s.ctrl.current.gateSkipped + s.ctrl.current.rejected
  issued  : s.ctrl.current.issued = s.ctrl.current.completed + s.ctrl.current.faulted +
    s.ctrl.current.laneSkipped + s.ctrl.current.aborted + itemsHeld s
  reached : s.ctrl.current.due ≤ 64 ∧
    (s.ctrl.walker = .heldQueue → s.ctrl.current.due ≤ s.ctrl.position.val) ∧
    (s.ctrl.walker = .heldGate → s.ctrl.current.due ≤ s.ctrl.position.val + 1)
  waits   : ∀ (n : Fin 4) (it : Item) (k : Nat), (s.lanes[n]).phase = .readyWait it k →
    k = 0 ∨ k < (s.lanes[n]).cfg.readyTimeout.toNat
  pauses  : ∀ (n : Fin 4) (it : Item) (k : Nat), (s.lanes[n]).phase = .pausing it k →
    k = 0 ∨ k < it.duration.toNat

/-! ### Slots (R75, R76, R95, R96) -/

/-- An EMPTY slot holds the cleared record but for nothing, and a fault kind stands exactly beside the
status FAULT (R75, R76, R85, R91). -/
structure SlotLegal (r : Slot) : Prop where
  empty : r.status = .empty → r = Slot.cleared
  fault : r.status = .fault ↔ r.faultKind ≠ none

/-- Every slot is legal, and no hysteresis exceeds 7FFFFFFFh (R95). -/
structure SlotsLegal (s : State) : Prop where
  slot       : ∀ i : Fin 64, SlotLegal s.samples.slots[i]
  hysteresis : ∀ i : Fin 64, (s.limits[i]).hysteresis.toNat ≤ 0x7FFFFFFF

/-! ### Alert queue (R102) -/

/-- The serials from `first` on, `n` of them, modulo 256. -/
def serialsFrom (first : Byte) : Nat → List Byte
  | 0 => []
  | n + 1 => first :: serialsFrom (first + 1) n

/-- At most sixteen records wait, and their serials are the ones before the next serial, consecutive
modulo 256 (R102). -/
structure AlertsLegal (s : State) : Prop where
  depth   : s.alerts.records.length ≤ 16
  serials : s.alerts.records.map AlertRecord.serial =
    serialsFrom (s.alerts.nextSerial - BitVec.ofNat 8 s.alerts.records.length) s.alerts.records.length

/-! ### Event controller (R124, R128) -/

/-- The levels on the stack fall from top to bottom, each at least 1 and the stack at most seven deep
(R128); every configured level is at least 1 (R124). -/
structure ServiceLegal (s : State) : Prop where
  order  : s.events.stack.Pairwise fun upper lower => lower.level.toNat < upper.level.toNat
  floor  : ∀ x ∈ s.events.stack, 1 ≤ x.level.toNat
  depth  : s.events.stack.length ≤ 7
  levels : ∀ n : Fin 16, 1 ≤ (s.events.sources[n]).level.toNat

/-! ### Mirror port (R143, R146, R150) -/

/-- MDO is driven exactly while a transaction is in REQUEST or RESPONSE (R143), a transaction stands only
while MSEL is asserted (R146, R148), none during power-on reset (R158), and a request under way is not
complete. -/
structure MirrorLegal (s : State) : Prop where
  inReset  : s.inReset = true → s.mirror.transaction = .idle
  driven   : s.mirror.mdo.isSome = s.mirror.underWay
  selected : s.mirror.transaction ≠ .idle → s.mirror.mselAsserted = true
  asking   : s.mirror.transaction = .request → s.mirror.bitCount < 16 ∧
    (8 ≤ s.mirror.bitCount → takesArgument s.mirror.command = true)

/-! ### The mirror rows as bytes and samples (R145, R146; log entry 8) -/

/-- The command and argument bytes of a mirror request row; a row of one byte has argument 0. -/
def requestOf : Instr → Option (Byte × Byte)
  | .readSlot slot => some (0x21, slot)
  | .readRun slot => some (0x22, slot)
  | .readState => some (0x30, 0)
  | .peekAlert => some (0x40, 0)
  | .ackAlert serial => some (0x41, serial)
  | .postNote note => some (0x50, note)
  | .mirrorUnknownCommand command => if isCommandByte command then none else some (command, 0)
  | _ => none

/-- The bits of a byte in the order in which they are sent, most significant bit first (R145). -/
def bitsOf (b : Byte) : List Bool := (List.range 8).map fun k => b.getLsbD (7 - k)

/-- The bits of a request: the command byte, and the argument byte where the command takes one. -/
def requestBitsOf (command argument : Byte) : List Bool :=
  bitsOf command ++ if takesArgument command then bitsOf argument else []

/-- The two MCLK samples of a bit period, away from the idle level and back, MDI at the bit (R145). -/
def periodSamples (mode : BitVec 2) (bit : Bool) : List Instr :=
  [.mclkEdge (!idleLevel mode) bit, .mclkEdge (idleLevel mode) bit]

/-- The MCLK samples that clock the bits in, up to the capture edge of the last one (R145). -/
def clockIn (mode : BitVec 2) (bits : List Bool) : List Instr :=
  let samples := bits.flatMap (periodSamples mode)
  if trailingCapture mode then samples else samples.dropLast

/-- The port in RESPONSE with a status, the whole request received (R146, R155). -/
def responding (command argument : Byte) (st : MirrorStatus) (s : State) : State :=
  { s with mirror := { s.mirror.received command argument with transaction := .response, status := st } }

/-- The mirror error latch after an error with its command byte (R156). -/
def errorLatched (e : MirrorError) (command : Option Byte) (m : Mirror) : Mirror :=
  { m with
    error := if m.error = none then some { error := e, command := command } else m.error
    errorRepeat := decide (m.error ≠ none) }

/-- The rows that the mirror port's pins bring about (chapter 8). -/
def isMirrorRow : Instr → Bool
  | .mselAssert _ | .mselDeassert | .readSlot _ | .readRun _ | .readRunNextRecord | .readState
  | .peekAlert | .ackAlert _ | .postNote _ | .mirrorUnknownCommand _ | .mclkEdge _ _ => true
  | _ => false

/-- The rows that arise in the timebase, on FTRIG, in a lane or in the scan controller. -/
def isInnerEvent : Instr → Bool
  | .timerExpiry | .ftrigEdge _ | .heldQueueRelease | .frameEnd | .readySeen _ _ | .readyTimeout _
  | .shiftEnd _ _ | .gapEnd _ | .pauseExpiry _ | .tick => true
  | _ => false

/-- The state after a list of commands, one after another. -/
def execAll : List Instr → State → Host.Outcome State Fault Refusal
  | [], s => .next s
  | c :: rest, s =>
    match exec c s with
    | .next t => execAll rest t
    | .fault f => .fault f
    | .refused r => .refused r

end Sys2Proof.Machine
end

