-- ==== Sys2Proof/Certificates/Slice0/Obligations.lean ====
section
/-! DEFINITION. The statements for the provers. Each speaks of every state that meets its hypotheses,
reached or not. A whole state on the right of an equation is also the frame: what it does not name stays
as it was. -/

open Sys2Proof Sys2Proof.Machine

/-! ### The queue and the resets -/

/-- A step takes the command at the front of the queue and is `exec` of it on the rest. On an empty queue
the block idles, which is the model's choice (log entry 1). -/
def Obligations.StepRunsFrontCommand : Prop :=
  (∀ (c : Instr) (rest : List Instr) (s : State), s.pending = c :: rest →
    step s = exec c { s with pending := rest }) ∧
  ∀ s : State, s.pending = [] → step s = .next s

/-- No command stops the device, none touches the queue, and only the two reset rows change whether it is
held in power-on reset (00_scope, Refusals; log entry 29). The queue, and that a reset leaves it as it is,
are the model's choices (log entries 1, 30). -/
def Obligations.EveryCommandAnswersNext : Prop :=
  ∀ (c : Instr) (s : State), ∃ t : State, exec c s = .next t ∧ t.pending = s.pending ∧
    (c ≠ .powerOnReset → (∀ f m, c ≠ .resetRelease f m) → t.inReset = s.inReset)

/-- POWER_ON_RESET puts every block into the power-on state of its chapter; while the device is held there
it takes no access and no event but the two reset rows; and RESET_RELEASE lets it run with the levels of
FTRIG and MSEL that the release finds (R159, R180). That nothing has an effect in power-on reset is deduced
(log entry 12), and that the queue stays is the model's choice (log entry 30). The last sampled level of
FTRIG, the length of the first tick, and the mirror fields that no reader sees are the model's (log entries
11, 24, 26) and are not stated. -/
def Obligations.PowerOnResetAndRelease : Prop :=
  (∀ (c : Instr) (s : State), s.inReset = true → c ≠ .powerOnReset → (∀ f m, c ≠ .resetRelease f m) →
    exec c s = .next s) ∧
  (∀ s : State, ∃ t : State, exec .powerOnReset s = .next t ∧ t.inReset = true ∧ t.pending = s.pending ∧
    (∀ (i : Fin 64) (k : Fin 8), (t.bankA[i]).word k = 0 ∧ (t.bankB[i]).word k = 0) ∧
    (t.ctrl.state = .stopped ∧ t.ctrl.walker = .idle ∧ t.ctrl.window = none ∧ t.ctrl.frame = 0 ∧
      t.ctrl.stopPending = false ∧ t.ctrl.deferred = false ∧ t.ctrl.abortMark = false ∧
      t.ctrl.commitPending = false ∧ t.ctrl.active = .a ∧ t.ctrl.overruns = 0 ∧
      t.ctrl.schedError = none ∧ t.ctrl.schedRepeat = false ∧ t.ctrl.last = t.ctrl.current ∧
      t.ctrl.current = {
        frame := 0, outcome := .complete, due := 0, issued := 0, completed := 0, faulted := 0
        laneSkipped := 0, aborted := 0, gateSkipped := 0, rejected := 0 }) ∧
    (∀ n : Fin 4, t.lanes[n] = {
      cfg := {
        enable := false, divider := 2, clockMode := 0, lsbFirst := false, selectActiveHigh := false
        fillBit := false, ready := .disabled, readyTimeout := 100, responseCheck := false, gap := 0
        haltOnFault := false, loopback := false }
      phase := .disabled, queue := [] }) ∧
    (∀ i : Fin 64, t.samples.slots[i] = {
      value := 0, sequence := 0, status := .empty, faultKind := none, limit := .unknown
      overwrite := false }) ∧
    (t.samples.latchIndex = 0 ∧ t.samples.latch = t.samples.slots[0] ∧ t.samples.selSlot = 0 ∧
      t.samples.selConsume = false) ∧
    (∀ i : Fin 64, t.limits[i] = {
      high := 0x7FFFFFFF, low := 0x80000000, hysteresis := 0, limitEnable := false, highAlert := false
      lowAlert := false, returnAlert := false, faultAlert := false, watch := false }) ∧
    t.alerts = {
      records := [], nextSerial := 0, lost := false, hostAck := .none
      hostLatch := { serial := 0, kind := .none, slot := 0, sequence := 0, value := 0 } } ∧
    (t.timer.divider = 40 ∧ t.timer.mode = .off ∧ t.timer.fallingEdge = false ∧
      t.timer.deferPolicy = false ∧ t.timer.period = 1000 ∧ t.timer.counting = false ∧
      t.timer.count = 0) ∧
    (∀ n : Fin 16, t.events.sources[n] = { masked := true, level := 1 }) ∧
    (t.events.edges = 0 ∧ t.events.stack = [] ∧ t.events.threshold = 0 ∧
      t.events.irqActiveHigh = false ∧ irqActive t = false ∧ irqPin t = true) ∧
    (t.mirror.cfg = { enable := false, clockMode := 0 } ∧ t.mirror.inForce = t.mirror.cfg ∧
      t.mirror.transaction = .idle ∧ t.mirror.mdo = none ∧ t.mirror.latch = .zeros ∧
      t.mirror.note = 0 ∧ t.mirror.unread = false ∧ t.mirror.overwrite = false ∧
      t.mirror.error = none ∧ t.mirror.errorRepeat = false) ∧
    (t.window.tableSel = .staged ∧ t.window.tableAddr = 0 ∧ t.window.cmdArg = 0 ∧
      t.window.result = .accepted ∧ t.window.resultIndex = 0 ∧ t.window.accessError = none ∧
      t.window.accessRepeat = false)) ∧
  ∀ (ftrig msel : Bool) (s : State), s.inReset = true →
    exec (.resetRelease ftrig msel) s = .next { s with
      inReset := false
      timer := { s.timer with ftrig := ftrig, tickPhase := 0 }
      mirror := { s.mirror with mselAsserted := msel } }

/-- SOFT_RESET puts every block into its soft-reset state at the write and keeps the banks, the selector,
the lane, slot and source configurations, the timer settings, the polarity, MIRROR_CFG and the table
port's registers (R20, R48, R72, R94, R111, R122, R142, R157, R170, R174). Events whose raises meet it are taken by
their blocks just before it, each as its row with nothing else meeting it; a raise of theirs that reaches the event
controller before the reset is discarded with the pending set, and one that reaches it after the reset is kept
(R142). The raises arrive in the order of the rows, so of the first row some are kept and of every later one all;
within that row FRAME_END arrives before BANK_SWAP, and that before FRAME_START and CONTROLLER_STOPPED (R175, R176).
What a completion raises, LANEn_FAULT, ALERT_LOST or SAMPLE_OVERWRITE, is never kept, since the completion reached
every receiver before the reset (R66, R72). Which events these are, and which raises are kept, is left open by the model's own field (log entries 34,
35); the raise of a host access is none of them, since SOFT_RESET sees every effect of the access before it (R159).
The walker's position 0, the mirror fields that no reader sees kept, the queue kept, and what meets a later
operation kept are the model's choices (log entries 26, 24, 30, 34). -/
def Obligations.SoftReset : Prop :=
  (∀ (c : Instr) (s : State),
    (Running s → isMirrorRow c = true ∨ isInnerEvent c = true → exec c s = .next (eventRow s c)) ∧
    (isMirrorRow c = false → isInnerEvent c = false → eventRow s c = s)) ∧
  (∀ (keep : Word) (n : Nat), n < 16 → (inRaiseOrder keep).getLsbD n =
    (keep.getLsbD n &&
      (decide (n ≠ 5) || keep.getLsbD 7 && keep.getLsbD 4 && keep.getLsbD 15) &&
      (decide (n ≠ 7) || keep.getLsbD 4 && keep.getLsbD 15))) ∧
  ∀ (s first t : State) (met : Meeting), Running s → met = s.meetings.headD .nothing →
    first = (met.rows.take 1).foldl eventRow { s with meetings := [], events := { s.events with edges := 0 } } →
    t = (met.rows.drop 1).foldl eventRow
      { first with events := { first.events with edges := first.events.edges &&& inRaiseOrder met.keep } } →
    exec .softReset s = .next { t with
      ctrl := {
        state := .stopped, walker := .idle, position := 0, window := none, frame := 0
        stopPending := false, deferred := false, abortMark := false, commitPending := false
        active := t.ctrl.active, current := .afterReset, last := .afterReset, schedError := none
        schedRepeat := false, overruns := 0 }
      lanes := t.lanes.map fun l =>
        { l with phase := if l.phase = .disabled then .disabled else .idle, queue := [] }
      samples := {
        slots := Vector.replicate 64 .cleared, latchIndex := 0, latch := .cleared, selSlot := 0
        selConsume := false }
      alerts := {
        records := [], nextSerial := 0, lost := false, hostAck := .none
        hostLatch := { serial := 0, kind := .none, slot := 0, sequence := 0, value := 0 } }
      timer := { t.timer with counting := false, count := 0 }
      events := { t.events with edges := t.events.edges &&& 0xF9F0, stack := [], threshold := 0 }
      mirror := { t.mirror with
        transaction := if t.mirror.transaction = .idle then .idle else .abandoned
        mdo := none, latch := .zeros, note := 0, unread := false, overwrite := false, error := none
        errorRepeat := false }
      window := { t.window with
        cmdArg := 0, result := .accepted, resultIndex := 0, accessError := none, accessRepeat := false }
      meetings := s.meetings.tail }

/-! ### Run control -/

/-- START: out of STOPPED into WAITING, the timer loaded in PERIODIC and ONE_SHOT mode; REFUSED_STATE
otherwise (R43, R116). STOP: nothing in STOPPED, entry to STOPPED in WAITING, stop_pending in ACTIVE (R44,
R41). Where the timer takes its expiring tick before the halt in WAITING, the halt leaves the reloaded count and
no frame starts; where it does not, the count stays at 1 (R118); which of the two it is, is left open by the
model's own field (log entry 34). -/
def Obligations.StartAndStop : Prop :=
  ∀ s : State, Running s →
    (s.ctrl.state = .stopped → s.timer.mode = .periodic ∨ s.timer.mode = .oneShot →
      exec .start s = .next (setResult .accepted 0 { s with
        ctrl := { s.ctrl with state := .waiting }
        timer := { s.timer with
          count := s.timer.period, counting := decide (s.timer.period ≠ 0) } })) ∧
    (s.ctrl.state = .stopped → s.timer.mode = .off ∨ s.timer.mode = .external →
      exec .start s = .next (setResult .accepted 0 { s with ctrl := { s.ctrl with state := .waiting } })) ∧
    (s.ctrl.state ≠ .stopped → exec .start s = .next (setResult .refusedState 0 s)) ∧
    (s.ctrl.state = .stopped → exec .stop s = .next (setResult .accepted 0 s)) ∧
    (s.ctrl.state = .waiting → ∀ (met : Meeting) (t : State), met = s.meetings.headD .nothing →
      t = { s with meetings := s.meetings.tail } →
      (met.tickFirst = false ∨ s.timer.counting = false ∨ s.timer.count ≠ 1 →
        exec .stop s = .next (setResult .accepted 0 (stoppedFrom t))) ∧
      (met.tickFirst = true → s.timer.counting = true → s.timer.count = 1 →
        exec .stop s = .next (setResult .accepted 0 (stoppedFrom { takeTick t with
          timer := (takeTick t).timer.afterExpiry })))) ∧
    (s.ctrl.state = .active → exec .stop s =
      .next (setResult .accepted 0 { s with ctrl := { s.ctrl with stopPending := true } }))

/-- ABORT, after the lane events that are taken before it: nothing in STOPPED, as STOP in WAITING, the timer's
expiring tick taken before the halt or not (R118); in ACTIVE
the two marks are set and the walker drains; then, after what arises between it and the abort requests still to
come, every lane that is neither DISABLED nor HALTED enters IDLE with nothing waiting, and each item those lanes
hold is counted aborted. What arises there is a lane event or the request of one lane, which does the same for
that lane alone. An aborted item touches no slot, no alert, no source (R45, R46, R70, R71, R83). A lane event is
what its row is but that a walker it releases does not issue (R46): the row GAP_END or SHIFT_END of a walker at
rest is that event with the walk run on behind it; TICK, where it ends one item or none, is so too, and the lanes
that count the tick late do so in both (R114, `Tick`). That the walker rests between steps and the walk
runs on inside the row is the model's (log entry 3); that the lane settles before the walk goes on is deduced
(log entry 23). What meets an ABORT is left open by the model's own field (log entry 34), and that the requests
are taken in the same step, those the field leaves out last, is the model's (log entry 18). -/
def Obligations.AbortCommand : Prop :=
  (∀ (s t : State) (met : Meeting), Running s →
    met = s.meetings.headD {
      before := [], between := [], tickFirst := false, order := [], late := [], lateAfter := []
      afterFrameEnd := [], afterSwap := [], endsAgain := false, rows := [], keep := 0 } →
    t = met.before.foldl laneEnd { s with meetings := s.meetings.tail } →
    (t.ctrl.state = .stopped → exec .abort s = .next (setResult .accepted 0 t)) ∧
    (t.ctrl.state = .waiting →
      (met.tickFirst = false ∨ t.timer.counting = false ∨ t.timer.count ≠ 1 →
        exec .abort s = .next (setResult .accepted 0 (stoppedFrom t))) ∧
      (met.tickFirst = true → t.timer.counting = true → t.timer.count = 1 →
        exec .abort s = .next (setResult .accepted 0 (stoppedFrom { takeTick t with
          timer := (takeTick t).timer.afterExpiry })))) ∧
    (t.ctrl.state = .active → ∀ u : State,
      u = met.between.foldl abortStep { t with ctrl := { t.ctrl with
        stopPending := true, abortMark := true, walker := .draining } } →
      exec .abort s = .next (setResult .accepted 0 { u with
        ctrl := { u.ctrl with
          current := { u.ctrl.current with
            aborted := u.ctrl.current.aborted +
              (u.lanes.toList.map fun l =>
                if l.phase = .disabled ∨ l.phase = .halted then 0 else l.items.length).sum } }
        lanes := u.lanes.map fun l =>
          if l.phase = .disabled ∨ l.phase = .halted then l
          else { l with phase := .idle, queue := [] } }))) ∧
  (∀ (u : State) (n : Fin 4) (l : Lane), u.ctrl.walker = .draining → l = u.lanes[n] →
    (l.phase = .disabled ∨ l.phase = .halted → abortStep u (.request n) = u) ∧
    (l.phase ≠ .disabled → l.phase ≠ .halted → abortStep u (.request n) = { u with
      ctrl := { u.ctrl with
        current := { u.ctrl.current with aborted := u.ctrl.current.aborted + l.items.length } }
      lanes := u.lanes.set n.val { l with phase := .idle, queue := [] } n.isLt })) ∧
  ∀ s : State, Running s →
    (∀ e : LaneEnd, abortStep s (.event e) = laneEnd s e) ∧
    (∀ n : Fin 4, AtRest s → exec (.gapEnd n) s = .next (runWalk (laneEnd s (.gapEnd n)))) ∧
    (∀ (n : Fin 4) (din : BitVec 64), AtRest s →
      exec (.shiftEnd n din) s = .next (runWalk (laneEnd s (.shiftEnd n din)))) ∧
    (∀ (n : Fin 4) (it : Item) (o : ItemOutcome) (u : State) (late : List LateStep), AtRest s →
      EndsWith n s it o .tick u late →
      exec .tick s = .next (late.foldl lateStep (runWalk (settleItem n it o u))) ∧
      laneEnd s .tick = (lateLanes late).foldl (lateCount settleItem) (settleItem n it o u)) ∧
    (∀ u : State, TickEndsOnly (fun _ => False) s → u = takeTick { s with meetings := s.meetings.tail } →
      exec .tick s = .next ((s.meetings.headD .nothing).late.foldl lateStep u) ∧ laneEnd s .tick = u) ∧
    (s.ctrl.state = .active → ∀ e : LaneEnd,
      (laneEnd s e).ctrl.current.issued = s.ctrl.current.issued ∧
      (laneEnd s e).ctrl.state = .active ∧
      (s.ctrl.walker = .draining → (laneEnd s e).ctrl.walker = .draining) ∧
      (s.ctrl.stopPending = true → (laneEnd s e).ctrl.stopPending = true))

/-- TRIGGER is accepted in every state and mode and delivers one trigger, which is ignored, starts a
frame, is remembered or is dropped as an overrun by the table of R24. That the walk of a started frame
runs on inside the step is the model's (log entry 3). -/
def Obligations.TriggerCommand : Prop :=
  ∀ s : State,
    (Running s → exec .trigger s = .next (setResult .accepted 0 (takeTrigger s))) ∧
    (s.ctrl.state = .stopped → takeTrigger s = s) ∧
    (s.ctrl.state = .waiting → takeTrigger s = runWalk (frameBegun s)) ∧
    (s.ctrl.state = .active → s.ctrl.stopPending = true → takeTrigger s = s) ∧
    (s.ctrl.state = .active → s.ctrl.stopPending = false →
      s.timer.deferPolicy = false ∨ s.ctrl.deferred = true →
      takeTrigger s = { s with
        ctrl := { s.ctrl with
          overruns := if s.ctrl.overruns = 255 then 255 else s.ctrl.overruns + 1 }
        events := s.events.raise srcFrameOverrun }) ∧
    (s.ctrl.state = .active → s.ctrl.stopPending = false → s.timer.deferPolicy = true →
      s.ctrl.deferred = false → takeTrigger s = { s with ctrl := { s.ctrl with deferred := true } })

/-- COMMIT: REFUSED_STATE with a commit pending; REFUSED_BANK with the lowest entry that fails a check of
R14; otherwise the swap in STOPPED, or the recorded request (R14, R15, R16). -/
def Obligations.CommitCommand : Prop :=
  ∀ s : State, Running s →
    (s.ctrl.commitPending = true → exec .commit s = .next (setResult .refusedState 0 s)) ∧
    (s.ctrl.commitPending = false →
      (∀ i : Fin 64, ¬ EntrySound (stagedBank s)[i] → (∀ j < i, EntrySound (stagedBank s)[j]) →
        exec .commit s = .next (setResult .refusedBank i s)) ∧
      (BankSound (stagedBank s) → s.ctrl.state = .stopped →
        exec .commit s = .next (setResult .accepted 0 { s with
          ctrl := { s.ctrl with
            active := (match s.ctrl.active with | .a => .b | .b => .a), commitPending := false }
          events := s.events.raise srcBankSwap })) ∧
      (BankSound (stagedBank s) → s.ctrl.state ≠ .stopped →
        exec .commit s =
          .next (setResult .accepted 0 { s with ctrl := { s.ctrl with commitPending := true } })))

/-- CANCEL_COMMIT: a pending commit is cleared with no swap and no event; with none pending nothing but
the result changes; and the staged bank takes a write again (R18, R13). -/
def Obligations.CancelCommit : Prop :=
  (∀ s : State, Running s → ∃ t : State, exec .cancelCommit s = .next t ∧
    t = setResult .accepted 0 { s with ctrl := { s.ctrl with commitPending := false } } ∧
    stagedBank t = stagedBank s ∧
    (s.window.tableSel = .staged → s.window.tableAddr.toNat < 512 → ∀ v : Word,
      exec (.stagedBankWrite v) t =
        .next (advanceTable (setStagedBank ((stagedBank s).setWord s.window.tableAddr v) t))))

/-- CLEAR_LANE and CLEAR_SLOT take their number from CMD_ARG: the named HALTED lane enters IDLE, the named
slot takes its power-on record; a number out of range is REFUSED_ARG (R68, R91). CLEAR_OVERRUN,
CLEAR_SCHEDULE_ERROR and CLEAR_ALERT_LOST are accepted in every controller state and change what they clear
and nothing else; a drop before CLEAR_OVERRUN leaves the count at 0 with its FRAME_OVERRUN kept, one after
it leaves 1 (R25, R33, R109). -/
def Obligations.ClearCommands : Prop :=
  ∀ s : State, Running s →
    (∀ n : Fin 4, s.window.cmdArg.toNat = n.val → (s.lanes[n]).phase = .halted →
      exec .clearLane s = .next (setResult .accepted 0
        { s with lanes := s.lanes.set n.val { s.lanes[n] with phase := .idle } n.isLt })) ∧
    (∀ n : Fin 4, s.window.cmdArg.toNat = n.val → (s.lanes[n]).phase ≠ .halted →
      exec .clearLane s = .next (setResult .accepted 0 s)) ∧
    (4 ≤ s.window.cmdArg.toNat → exec .clearLane s = .next (setResult .refusedArg 0 s)) ∧
    (∀ i : Fin 64, s.window.cmdArg.toNat = i.val →
      exec .clearSlot s = .next (setResult .accepted 0 { s with samples := { s.samples with
        slots := s.samples.slots.set i.val {
          value := 0, sequence := 0, status := .empty, faultKind := none, limit := .unknown
          overwrite := false } i.isLt } })) ∧
    (64 ≤ s.window.cmdArg.toNat → exec .clearSlot s = .next (setResult .refusedArg 0 s)) ∧
    exec .clearOverrun s =
      .next (setResult .accepted 0 { s with ctrl := { s.ctrl with overruns := 0 } }) ∧
    exec .clearScheduleError s = .next (setResult .accepted 0
      { s with ctrl := { s.ctrl with schedError := none, schedRepeat := false } }) ∧
    exec .clearAlertLost s =
      .next (setResult .accepted 0 { s with alerts := { s.alerts with lost := false } }) ∧
    (s.ctrl.state = .active → s.ctrl.stopPending = false → s.timer.deferPolicy = false →
      (∃ t, execAll [.trigger, .clearOverrun] s = .next t ∧ t.ctrl.overruns = 0 ∧
        t.events = s.events.raise srcFrameOverrun) ∧
      ∃ t, execAll [.clearOverrun, .trigger] s = .next t ∧ t.ctrl.overruns = 1 ∧
        t.events = s.events.raise srcFrameOverrun)

/-- A COMMAND write of a value that is none of the twelve codes changes CMD_RESULT alone, to REFUSED_CODE,
and a value that is a code is that code's command, whichever row brings it; that last clause is the
model's (R167; log entry 15). -/
def Obligations.CommandCodes : Prop :=
  ∀ s : State, Running s →
    (∀ v : Word, v.toNat = 0 ∨ 13 ≤ v.toNat →
      exec (.undefinedCommandCode v) s = .next (setResult .refusedCode 0 s)) ∧
    (∀ c : Instr, ∀ v : Word,
      (c, v.toNat) ∈ [(.start, 1), (.stop, 2), (.abort, 3), (.trigger, 4), (.commit, 5),
        (.cancelCommit, 6), (.clearLane, 7), (.clearSlot, 8), (.clearOverrun, 9),
        (.clearScheduleError, 10), (.clearAlertLost, 11), (.softReset, 12)] →
      exec (.undefinedCommandCode v) s = exec c s)

/-! ### The walk and the frame -/

/-- A walker in ISSUING takes the entry at its position by its kind, the due rule, the skip window, the
runtime checks and the room in its lane's queue, and the walk then goes on from what that leaves. A walker
in another state takes nothing (R9, R30, R31, R32, R33, R34). An index lies in the window from its first to its
last, both included, in none where no window is open, and a rejected gate opens the window of a failed one (R31,
R32, R37). That the walk runs on inside the step is the model's (log entry 3). -/
def Obligations.WalkTakesEachEntry : Prop :=
  (∀ (c : Ctrl) (i : Fin 64), (c.window = none → c.inWindow i = false) ∧
    ∀ w, c.window = some w → (c.inWindow i = true ↔ w.first ≤ i ∧ i ≤ w.last)) ∧
  (∀ (g : Fin 64) (e : Entry), FailWindow g e (skipWindow g e.skip.toNat)) ∧
  (∀ s : State, s.ctrl.walker ≠ .issuing → runWalk s = s) ∧
  ∀ (s : State) (e : Entry), s.ctrl.walker = .issuing → e = (activeBank s)[s.ctrl.position] →
    -- EMPTY, or an END inside the window: passed over
    (e.kind = some .empty ∨ (e.kind = some .endWalk ∧ s.ctrl.inWindow s.ctrl.position = true) →
      runWalk s = runWalk { s with ctrl := wentOn s.ctrl }) ∧
    -- END outside the window: the walk finishes
    (e.kind = some .endWalk → s.ctrl.inWindow s.ctrl.position = false →
      runWalk s = { s with ctrl := { s.ctrl with walker := .draining } }) ∧
    -- not due: passed over
    (∀ k : ItemKind, e.itemKind = some k → s.ctrl.frame.toNat % 2 ^ e.rate.toNat ≠ e.phase.toNat →
      runWalk s = runWalk { s with ctrl := wentOn s.ctrl }) ∧
    -- due inside the window: counted, not performed
    (∀ k : ItemKind, e.itemKind = some k → s.ctrl.frame.toNat % 2 ^ e.rate.toNat = e.phase.toNat →
      s.ctrl.inWindow s.ctrl.position = true →
      runWalk s = runWalk { s with ctrl := wentOn { s.ctrl with current := { s.ctrl.current with
        due := s.ctrl.current.due + 1, gateSkipped := s.ctrl.current.gateSkipped + 1 } } }) ∧
    -- a lane that cannot take it: rejected, latched, SCHEDULE_ERROR raised
    (∀ (k : ItemKind) (why : RejectReason), e.itemKind = some k →
      s.ctrl.frame.toNat % 2 ^ e.rate.toNat = e.phase.toNat → s.ctrl.inWindow s.ctrl.position = false →
      ((why = .laneDisabled ∧ (s.lanes[e.lane]).cfg.enable = false) ∨
        (why = .readyUnavailable ∧ (s.lanes[e.lane]).cfg.enable = true ∧ k ≠ .pause ∧
          e.waitReady = true ∧ (s.lanes[e.lane]).cfg.ready = .disabled)) →
      runWalk s = runWalk { s with
        ctrl := wentOn { s.ctrl with
          current := { s.ctrl.current with
            due := s.ctrl.current.due + 1, rejected := s.ctrl.current.rejected + 1 }
          window := if k = .gate then skipWindow s.ctrl.position e.skip.toNat else s.ctrl.window
          schedError := if s.ctrl.schedError = none then
            some { frame := s.ctrl.frame, index := s.ctrl.position, reason := why }
            else s.ctrl.schedError
          schedRepeat := decide (s.ctrl.schedError ≠ none) }
        events := s.events.raise srcScheduleError }) ∧
    -- a lane that can take it and has no room: held, not counted
    (∀ k : ItemKind, e.itemKind = some k → s.ctrl.frame.toNat % 2 ^ e.rate.toNat = e.phase.toNat →
      s.ctrl.inWindow s.ctrl.position = false → (s.lanes[e.lane]).cfg.enable = true →
      k = .pause ∨ e.waitReady = false ∨ (s.lanes[e.lane]).cfg.ready ≠ .disabled →
      4 ≤ (s.lanes[e.lane]).queue.length →
      runWalk s = { s with ctrl := { s.ctrl with walker := .heldQueue } }) ∧
    -- a lane with room: counted and issued at the tail, the walker on or holding for its gate
    (∀ k : ItemKind, e.itemKind = some k → s.ctrl.frame.toNat % 2 ^ e.rate.toNat = e.phase.toNat →
      s.ctrl.inWindow s.ctrl.position = false → (s.lanes[e.lane]).cfg.enable = true →
      k = .pause ∨ e.waitReady = false ∨ (s.lanes[e.lane]).cfg.ready ≠ .disabled →
      (s.lanes[e.lane]).queue.length < 4 →
      runWalk s = runWalk (enqueue e.lane (makeItem s.ctrl.position k e s.ctrl.frame)
        { s with ctrl :=
          let c := { s.ctrl with current := { s.ctrl.current with
            due := s.ctrl.current.due + 1, issued := s.ctrl.current.issued + 1 } }
          if k = .gate then { c with walker := .heldGate } else wentOn c }))

/-- FRAME_END, the walker draining and no lane holding an item: the report closes and is copied, FRAME_END
is raised, and then the controller enters STOPPED, starts the deferred frame, or waits. Host reads of EV_CLAIM,
EV_PENDING and EV_SERVICE that meet the raises find what is pending after FRAME_END, or after BANK_SWAP, and the
next raise comes after them (R40, R41, R27, R138, R139, R175, R176). Which reads meet the raises is left open by
the model's own field, and that they may fall between those of R176, and reads other than claims between any, is
the model's choice (log entry 34). A row whose condition does not hold changes nothing, which is the model's (log
entry 2), and so is that the walk of the deferred frame runs on inside the step (log entry 3). -/
def Obligations.FrameEnd : Prop :=
  (∀ s : State,
    (Running s → exec .evClaim s = .next (takeRead s .claim)) ∧
    takeRead s .pending = { s with window := { s.window with lastRead := some (registerWord 0x1A s) } } ∧
    takeRead s .service = { s with window := { s.window with lastRead := some (registerWord 0x1B s) } } ∧
    (Running s → s.ctrl.walker ≠ .draining ∨ (∃ n : Fin 4, (s.lanes[n]).items ≠ []) →
      exec .frameEnd s = .next s)) ∧
  ∀ (s closed a : State) (met : Meeting), Running s → s.ctrl.walker = .draining →
    (∀ n : Fin 4, (s.lanes[n]).items = []) →
    met = s.meetings.headD .nothing →
    closed = reportClosed { s with meetings := s.meetings.tail } →
    a = met.afterFrameEnd.foldl takeRead closed →
    (s.ctrl.stopPending = true ∨ s.ctrl.deferred = true → ∀ b : State,
      b = met.afterSwap.foldl takeRead (swapMade a) →
      (s.ctrl.stopPending = true → exec .frameEnd s = .next (stoppedFrom b)) ∧
      (s.ctrl.stopPending = false → exec .frameEnd s = .next (runWalk { frameBegun b with
        ctrl := { (frameBegun b).ctrl with deferred := false } }))) ∧
    (s.ctrl.stopPending = false → s.ctrl.deferred = false → ∀ b : State,
      b = met.afterSwap.foldl takeRead a →
      exec .frameEnd s = .next { b with ctrl := { b.ctrl with state := .waiting, walker := .idle } })

/-! ### Timebase -/

/-- A tick as TICK, READY_TIMEOUT and PAUSE_EXPIRY take it. Its counts: a COUNTING timer counts down, every
READY_WAIT and every PAUSING counts one tick, the next tick has the divider's length, and nothing else moves
(R57, R63, R112, R113, R116). What the counts bring about follows in the same step: the timer's expiry, and
the item of each lane whose wait or pause is over ends (R57, R63, R117). A lane that the tick has brought into
READY_WAIT or PAUSING takes the tick before its entry and has not counted it, or after it and counts it, its wait
ending at once where it is of one tick (R114); what follows in the tick's moment is such a count, or the release or
the frame end that the tick has made due, each as its row takes it. READY_TIMEOUT and PAUSE_EXPIRY of a
lane are the tick that ends its wait or pause, that lane first and the timer's trigger last: a frame end that
the lanes' ends have made due, or the release of the held entry behind them, each as its row takes it, comes
before the trigger, which finds what it left (R26, R35, R67), and the timer's action before it (R118). In which
order the lanes end, which count the tick late, what else follows in its moment, and whether a second frame end,
which the started frame makes due at once, comes before the trigger too are left open by the model's own field (log
entries 5, 32, 34). Where the next tick does not end it, the row changes nothing (log entry 2). That the timer comes
first or last by the row is the model's choice (log entry 5). The phase of a tick stays 0 (log entry 6). -/
def Obligations.Tick : Prop :=
  (∀ s t : State, t = takeTick s →
    t = { s with timer := t.timer, lanes := t.lanes } ∧
    (s.timer.counting = false →
      t.timer = { s.timer with tickLength := s.timer.divider, tickPhase := 0 }) ∧
    (s.timer.counting = true → s.timer.count ≠ 0 →
      t.timer = { s.timer with
        count := s.timer.count - 1, tickLength := s.timer.divider, tickPhase := 0 }) ∧
    ∀ n : Fin 4,
      (∀ it k, (s.lanes[n]).phase = .readyWait it k →
        t.lanes[n] = { s.lanes[n] with phase := .readyWait it (k + 1) } ∧
        (timeoutReached n t = true ↔ (s.lanes[n]).cfg.readyTimeout.toNat ≤ k + 1) ∧
        pauseReached n t = false ∧
        expireLane finishItem n t = finishItem n it (.fault .readyTimeout) t) ∧
      (∀ it k, (s.lanes[n]).phase = .pausing it k →
        t.lanes[n] = { s.lanes[n] with phase := .pausing it (k + 1) } ∧
        (pauseReached n t = true ↔ it.duration.toNat ≤ k + 1) ∧
        timeoutReached n t = false ∧
        expireLane finishItem n t = finishItem n it (.completed 0) t) ∧
      ((∀ it k, (s.lanes[n]).phase ≠ .readyWait it k) → (∀ it k, (s.lanes[n]).phase ≠ .pausing it k) →
        t.lanes[n] = s.lanes[n] ∧ timeoutReached n t = false ∧ pauseReached n t = false)) ∧
  (∀ order : List (Fin 4), (∀ n, n ∈ tickOrder order) ∧ (tickOrder order).Nodup ∧
    (order.Nodup → order <+: tickOrder order)) ∧
  (∀ (s : State) (n : Fin 4) (l : Lane) (ending : Ending), l = s.lanes[n] →
    (∀ (it : Item) (t : State), l.phase = .readyWait it 0 →
      t = { s with lanes := s.lanes.set n.val { l with phase := .readyWait it 1 } n.isLt } →
      (1 < l.cfg.readyTimeout.toNat → lateCount ending s n = t) ∧
      (l.cfg.readyTimeout.toNat ≤ 1 → lateCount ending s n = ending n it (.fault .readyTimeout) t)) ∧
    (∀ (it : Item) (t : State), l.phase = .pausing it 0 →
      t = { s with lanes := s.lanes.set n.val { l with phase := .pausing it 1 } n.isLt } →
      (1 < it.duration.toNat → lateCount ending s n = t) ∧
      (it.duration.toNat ≤ 1 → lateCount ending s n = ending n it (.completed 0) t)) ∧
    ((∀ it, l.phase ≠ .readyWait it 0) → (∀ it, l.phase ≠ .pausing it 0) → lateCount ending s n = s)) ∧
  (∀ s : State, (∀ n, lateStep s (.count n) = lateCount finishItem s n) ∧
    (Running s → exec .heldQueueRelease s = .next (lateStep s .release) ∧
      exec .frameEnd s = .next (lateStep s .frameEnd))) ∧
  (∀ (n : Fin 4) (it : Item) (o : ItemOutcome) (s : State), Running s → (s.lanes[n]).phase = .gap it o →
    exec (.gapEnd n) s = .next (finishItem n it o s)) ∧
  ∀ (s t acted : State) (met : Meeting) (ended : Fin 4 → Bool) (expires : Prop) (due : State → Prop),
    Running s → met = s.meetings.headD .nothing → t = takeTick { s with meetings := s.meetings.tail } →
    (∀ u, due u ↔ u.ctrl.walker = .draining ∧ ∀ m : Fin 4, (u.lanes[m]).items = []) →
    (∀ n, ended n = (timeoutReached n t || pauseReached n t)) →
    (expires ↔ s.timer.counting = true ∧ s.timer.count = 1) →
    (expires → acted = { t with timer := t.timer.afterExpiry }) → (¬ expires → acted = t) →
    (∀ expired : State,
      (expires → expired = { takeTrigger t with timer := (takeTrigger t).timer.afterExpiry }) →
      (¬ expires → expired = t) →
      exec .tick s = .next (met.late.foldl lateStep
        (((tickOrder met.order).filter ended).foldl (fun u n => expireLane finishItem n u) expired))) ∧
    ∀ (n : Fin 4) (first released once closed last : State),
      first = met.late.foldl lateStep ((n :: (tickOrder met.order).filter fun m =>
        ended m && decide (m ≠ n)).foldl (fun u m => expireLane finishItem m u) acted) →
      exec .heldQueueRelease first = .next released →
      (due released → exec .frameEnd released = .next once) →
      (¬ due released → closed = first) →
      (due released → due once → (∃ m rest, released.meetings = m :: rest ∧ m.endsAgain = true) →
        exec .frameEnd once = .next closed) →
      (due released → ¬ due once ∨ (∀ m rest, released.meetings = m :: rest → m.endsAgain = false) →
        closed = once) →
      (expires → last = met.lateAfter.foldl lateStep (takeTrigger closed)) →
      (¬ expires → last = first) →
      (timeoutReached n t = true → exec (.readyTimeout n) s = .next last) ∧
      (timeoutReached n t = false → exec (.readyTimeout n) s = .next s) ∧
      (pauseReached n t = true → exec (.pauseExpiry n) s = .next last) ∧
      (pauseReached n t = false → exec (.pauseExpiry n) s = .next s)

/-- TIMER_EXPIRY is the tick that brings a COUNTING timer from 1 to 0: that tick as TICK takes it, and where
it ends no lane's wait, one trigger is delivered after the counts, and the timer then reloads in PERIODIC
mode or halts at 0 in ONE_SHOT mode (R112, R116, R117). A lane that the trigger puts into a wait counts this tick or
does not (R114), which the model's own field leaves open with what else follows in the tick's moment (log entries
32, 34; `Tick`). A timer that is HALTED or not at 1 has no
expiry, and the row then changes nothing, which is the model's (log entry 2). -/
def Obligations.TimerExpiry : Prop :=
  ∀ s : State, Running s →
    (s.timer.counting = true → s.timer.count = 1 →
      exec .timerExpiry s = exec .tick s ∧
      (WaitsGoOn (fun _ => False) s → ∀ (t : State) (late : List LateStep),
        t = takeTick { s with meetings := s.meetings.tail } → late = (s.meetings.headD .nothing).late →
        (s.timer.mode = .periodic → exec .timerExpiry s = .next (late.foldl lateStep { takeTrigger t with
          timer := { s.timer with
            count := s.timer.period, counting := decide (s.timer.period ≠ 0)
            tickLength := s.timer.divider, tickPhase := 0 } })) ∧
        (s.timer.mode = .oneShot → exec .timerExpiry s = .next (late.foldl lateStep { takeTrigger t with
          timer := { s.timer with
            count := 0, counting := false, tickLength := s.timer.divider, tickPhase := 0 } })))) ∧
    (s.timer.counting = false ∨ s.timer.count ≠ 1 → exec .timerExpiry s = .next s)

/-- FTRIG_EDGE: the detector keeps the level in every mode and state; in EXTERNAL mode a change in the
selected direction delivers one trigger; nothing else does (R120). -/
def Obligations.FtrigEdge : Prop :=
  ∀ (level : Bool) (s : State), Running s → ∀ kept : State,
    kept = { s with timer := { s.timer with ftrig := level } } →
    (s.timer.mode = .external → s.timer.ftrig = s.timer.fallingEdge → level = !s.timer.fallingEdge →
      exec (.ftrigEdge level) s = .next (takeTrigger kept)) ∧
    (s.timer.mode ≠ .external ∨ level = s.timer.ftrig ∨ level = s.timer.fallingEdge →
      exec (.ftrigEdge level) s = .next kept) ∧
    (s.ctrl.state = .stopped → exec (.ftrigEdge level) s = .next kept)

/-- TIMER_DIV, TIMER_PERIOD and TIMER_MODE writes: a divider of 1 to 4096 is kept and lasts from the next
tick on; a period is kept, restarts a COUNTING timer, and halts it at 0; a mode write is whole in STOPPED
and otherwise changes the policy alone, where mode and edge are the ones held (R113, R115, R119). -/
def Obligations.TimerRegisters : Prop :=
  ∀ (v : Word) (s : State), Running s →
    (1 ≤ v.toNat → v.toNat ≤ 4096 →
      exec (.timerDivWrite v) s = .next { s with timer := { s.timer with divider := v } }) ∧
    (v.toNat = 0 ∨ 4097 ≤ v.toNat → exec (.timerDivWrite v) s = .next (refuseWrite .badValue 0x08 s)) ∧
    (s.timer.counting = false →
      exec (.timerPeriodWrite v) s = .next { s with timer := { s.timer with period := v } }) ∧
    (s.timer.counting = true → v ≠ 0 →
      exec (.timerPeriodWrite v) s = .next { s with timer := { s.timer with period := v, count := v } }) ∧
    (s.timer.counting = true → v = 0 →
      exec (.timerPeriodWrite v) s = .next { s with timer := { s.timer with
        period := 0, count := 0, counting := false } }) ∧
    (∀ mode : TimerMode, v.toNat % 4 = mode.code.toNat →
      (s.ctrl.state = .stopped → exec (.timerModeWrite v) s = .next { s with timer := { s.timer with
        mode := mode, fallingEdge := v.getLsbD 2, deferPolicy := v.getLsbD 3 } }) ∧
      (s.ctrl.state ≠ .stopped → mode = s.timer.mode → v.getLsbD 2 = s.timer.fallingEdge →
        exec (.timerModeWrite v) s =
          .next { s with timer := { s.timer with deferPolicy := v.getLsbD 3 } }) ∧
      (s.ctrl.state ≠ .stopped → mode ≠ s.timer.mode ∨ v.getLsbD 2 ≠ s.timer.fallingEdge →
        exec (.timerModeWrite v) s = .next (refuseWrite .configBusy 0x07 s)))

/-! ### Lanes -/

/-- READY_SEEN in READY_WAIT: a level that is active by the lane's setting begins the exchange, any other
level leaves the wait as it is (R57). -/
def Obligations.ReadySeen : Prop :=
  ∀ (n : Fin 4) (rdy : Bool) (s : State) (it : Item) (k : Nat), Running s →
    (s.lanes[n]).phase = .readyWait it k →
    ((s.lanes[n]).cfg.ready = .activeHigh ∧ rdy = true ∨
        (s.lanes[n]).cfg.ready = .activeLow ∧ rdy = false →
      exec (.readySeen n rdy) s = .next { s with
        lanes := s.lanes.set n.val { s.lanes[n] with phase := .shifting it } n.isLt }) ∧
    ((s.lanes[n]).cfg.ready = .activeHigh ∧ rdy = false ∨
        (s.lanes[n]).cfg.ready = .activeLow ∧ rdy = true →
      exec (.readySeen n rdy) s = .next s)

/-- SHIFT_END moves a SHIFTING lane into GAP with the outcome decided: STUCK_RESPONSE where the check is
on, in_len is 8 or more and all response bits are equal, otherwise DONE with the response, whose bit j was
captured in the period that the bit order names, and in loopback is the fill bit (R60, R61, R64). With a gap
of 0 the GAP ends in the same step, as GAP_END ends it (R62). -/
def Obligations.ShiftEnd : Prop :=
  ∀ (n : Fin 4) (din : BitVec 64) (s : State) (it : Item) (l : Lane), Running s → l = s.lanes[n] →
    l.phase = .shifting it → it.inLen.toNat ≤ 32 → it.outLen.toNat ≤ 32 →
    ∀ (bit : Nat → Bool) (entered : ItemOutcome → State),
      (∀ j, bit j = if l.cfg.loopback then l.cfg.fillBit else
        din.getLsbD (it.outLen.toNat + if l.cfg.lsbFirst then j else it.inLen.toNat - 1 - j)) →
      (∀ o, entered o = { s with lanes := s.lanes.set n.val { l with phase := .gap it o } n.isLt }) →
      ∃ o : ItemOutcome,
        (l.cfg.responseCheck = true ∧ 8 ≤ it.inLen.toNat ∧ (∀ j < it.inLen.toNat, bit j = bit 0) →
          o = .fault .stuckResponse) ∧
        (l.cfg.responseCheck = false ∨ it.inLen.toNat < 8 ∨ (∃ j < it.inLen.toNat, bit j ≠ bit 0) →
          ∃ r : Value, o = .completed r ∧ (∀ j < it.inLen.toNat, r.getLsbD j = bit j) ∧
            ∀ j, it.inLen.toNat ≤ j → r.getLsbD j = false) ∧
        (l.cfg.gap ≠ 0 → exec (.shiftEnd n din) s = .next (entered o)) ∧
        (l.cfg.gap = 0 → exec (.shiftEnd n din) s = exec (.gapEnd n) (entered o))

/-- The outputs of a lane. DISABLED drives none; every state but SHIFTING holds the idle clock, the fill bit
and four inactive selects (R53). In SHIFTING, with N = out_len + in_len bit periods of two halves each and
the hold as half 2N: the clock is idle in each first half and in the hold, and away from idle in each second
half; LnDO carries bit k of the item through period k in modes 0 and 2, from the middle of period k to the
middle of the next in modes 1 and 3, the fill bit before that and in the hold; the item's select and no other
is asserted, in loopback none (R56, R58, R59, R64). Once an ABORT has been taken in ACTIVE, no lane shifts
and every lane that is not DISABLED holds its idle levels (R177); that its four requests are taken in the
same step is the model's (log entry 18). -/
def Obligations.LaneOutputs : Prop :=
  (∀ (l : Lane) (h : Nat) (idle : Bool), idle = l.cfg.clockMode.getLsbD 1 →
    (l.phase = .disabled → l.pins h = none) ∧
    (l.phase ≠ .disabled → (∀ it, l.phase ≠ .shifting it) → l.pins h = some {
      clk := idle, dout := l.cfg.fillBit, sel := Vector.replicate 4 (!l.cfg.selectActiveHigh) }) ∧
    ∀ (it : Item) (bit : Nat → Bool) (last : Nat), l.phase = .shifting it →
      last = it.outLen.toNat + it.inLen.toNat →
      (∀ k, bit k = if k ≤ it.outLen.toNat then
        it.outWord.getLsbD (if l.cfg.lsbFirst then k - 1 else it.outLen.toNat - k) else l.cfg.fillBit) →
      ∃ p : LanePins, l.pins h = some p ∧
        (∀ j : Fin 4, p.sel[j] =
          if l.cfg.loopback = false ∧ it.select.toNat = j.val then l.cfg.selectActiveHigh
          else !l.cfg.selectActiveHigh) ∧
        (∀ k, 1 ≤ k → k ≤ last →
          (h = 2 * (k - 1) → p.clk = idle) ∧ (h = 2 * (k - 1) + 1 → p.clk = !idle) ∧
          (l.cfg.clockMode.getLsbD 0 = false → h = 2 * (k - 1) ∨ h = 2 * (k - 1) + 1 →
            p.dout = bit k) ∧
          (l.cfg.clockMode.getLsbD 0 = true →
            (h = 2 * (k - 1) + 1 ∨ h = 2 * k ∧ k < last → p.dout = bit k) ∧
            (h = 0 → p.dout = l.cfg.fillBit))) ∧
        (h = 2 * last → p.clk = idle ∧ p.dout = l.cfg.fillBit)) ∧
  ∀ (s t : State) (n : Fin 4) (h : Nat), Running s → s.ctrl.state = .active → exec .abort s = .next t →
    (t.lanes[n]).phase ≠ .disabled → (t.lanes[n]).pins h = some {
      clk := (s.lanes[n]).cfg.clockMode.getLsbD 1, dout := (s.lanes[n]).cfg.fillBit
      sel := Vector.replicate 4 (!(s.lanes[n]).cfg.selectActiveHigh) }

/-- GAP_END, READY_TIMEOUT, PAUSE_EXPIRY, the TICK that is one of these two, and SHIFT_END with a gap of 0,
of an item that is no gate, the lane not to halt: the completion is handed on, the lane enters IDLE, and it
takes the head of its queue where one waits (R54, R55, R57, R61, R62, R63, R66). READY_TIMEOUT and
PAUSE_EXPIRY take their tick with them, its counts first, and it is one that ends nothing else (log entry 5;
`Tick` states the others); what follows in its moment, such as a count of the tick by a wait that it brings about
(R114), comes last and is left open by the model's own field (log entries 32, 34). In loopback a waiting item skips READY_WAIT, which is the model's choice (log
entry 21). That the walker rests between steps is the model's (log entry 3). -/
def Obligations.ItemEnds : Prop :=
  ∀ (n : Fin 4) (s u : State) (it : Item) (o : ItemOutcome) (c : Instr) (late : List LateStep),
    Running s → AtRest s → EndsWith n s it o c u late → it.kind ≠ .gate →
    ((∃ r, o = .completed r) ∨ (∃ f, o = .fault f ∧ (s.lanes[n]).cfg.haltOnFault = false)) →
    ((s.lanes[n]).queue = [] → exec c s = .next (late.foldl lateStep { complete n it o u with
      lanes := u.lanes.set n.val { s.lanes[n] with phase := .idle } n.isLt })) ∧
    (∀ (next : Item) (rest : List Item), (s.lanes[n]).queue = next :: rest →
      exec c s = .next (late.foldl lateStep { complete n it o u with
        lanes := u.lanes.set n.val { s.lanes[n] with
          phase :=
            if next.kind = .pause then .pausing next 0
            else if next.waitReady = true ∧ (s.lanes[n]).cfg.loopback = false then .readyWait next 0
            else .shifting next
          queue := rest } n.isLt }))

/-- A FAULT under the HALT policy, at GAP_END, at SHIFT_END with a gap of 0, at READY_TIMEOUT or the TICK that
is one, of an item that is no gate: the lane is HALTED and empty, and every item that waited is counted
lane_skipped, with no slot, alert or source touched by it; where the last of them is the gate that the
walker holds for, it has failed, and the walk goes on behind its window (R36, R37, R66, R67, R83).
READY_TIMEOUT takes its tick with it, which ends nothing else here (log entry 5), with what follows in its moment
(log entries 32, 34). That the lane has skipped
what waits before the walk goes on is deduced (log entry 23); that the walker rests between steps and the
walk runs on inside one is the model's (log entry 3). -/
def Obligations.HaltingFault : Prop :=
  ∀ (n : Fin 4) (s u : State) (it : Item) (f : FaultKind) (c : Instr) (late : List LateStep) (l : Lane)
    (skipped : FrameReport), Running s → AtRest s → EndsWith n s it (.fault f) c u late → it.kind ≠ .gate → l = s.lanes[n] →
    l.cfg.haltOnFault = true →
    skipped = { s.ctrl.current with
      faulted := s.ctrl.current.faulted + 1
      laneSkipped := s.ctrl.current.laneSkipped + l.queue.length } →
    (s.ctrl.walker ≠ .heldGate ∨ (∀ x ∈ l.queue, x.kind ≠ .gate) →
      exec c s = .next (late.foldl lateStep { complete n it (.fault f) u with
        lanes := u.lanes.set n.val { l with phase := .halted, queue := [] } n.isLt
        ctrl := { s.ctrl with current := skipped } })) ∧
    (∀ (ahead : List Item) (gate : Item) (e : Entry), l.queue = ahead ++ [gate] →
      (∀ x ∈ ahead, x.kind ≠ .gate) → gate.kind = .gate → s.ctrl.walker = .heldGate →
      s.ctrl.position = gate.index → e = (activeBank s)[gate.index] →
      ∃ w : Option SkipWindow, FailWindow gate.index e w ∧
        exec c s = .next (late.foldl lateStep (runWalk { complete n it (.fault f) u with
          lanes := u.lanes.set n.val { l with phase := .halted, queue := [] } n.isLt
          ctrl := wentOn { s.ctrl with window := w, current := skipped } })))

/-- The completion of a gate in progress, at GAP_END, at SHIFT_END with a gap of 0, at READY_TIMEOUT or the
TICK that is one, on a lane on which nothing else waits: it is counted, and the lane is IDLE, or HALTED by a
FAULT under HALT. Where the walker holds for it, the gate passes on DONE with the masked bits equal, and the
walk goes on; it fails otherwise, and the walk goes on behind a window of skip entries cut off at 63 (R6,
R36, R37, R67). A gate completion that finds the walker in DRAINING is counted and not evaluated (R46). A
gate that completes SKIPPED is stated in `HaltingFault` and `ItemReachesItsLane`. READY_TIMEOUT takes its
tick with it, which ends nothing else here (log entry 5), with what follows in its moment (log entries 32, 34).
That the lane has left the item before the walk
goes on is deduced (log entry 23), and that the walk runs on inside the step is the model's (log entry
3). -/
def Obligations.GateJudged : Prop :=
  ∀ (n : Fin 4) (s u : State) (it : Item) (o : ItemOutcome) (c : Instr) (late : List LateStep),
    Running s → EndsWith n s it o c u late → it.kind = .gate → (s.lanes[n]).queue = [] →
    ((∃ r, o = .completed r) ∨ ∃ f, o = .fault f) →
    ∀ (e : Entry) (t : State), e = (activeBank s)[it.index] →
      t = { u with
        lanes := u.lanes.set n.val { s.lanes[n] with
          phase := match o with
            | .fault _ => if (s.lanes[n]).cfg.haltOnFault then .halted else .idle
            | _ => .idle } n.isLt
        ctrl := { s.ctrl with current := s.ctrl.current.countOutcome o }
        events := match o with
          | .fault _ => s.events.raise (laneFaultSource n)
          | _ => s.events } →
      (s.ctrl.walker = .heldGate → s.ctrl.position = it.index →
        ((∃ r, o = .completed r ∧ r &&& e.gateMask = e.gateMatch &&& e.gateMask) →
          exec c s = .next (late.foldl lateStep (runWalk { t with ctrl := wentOn t.ctrl }))) ∧
        ((∃ f, o = .fault f) ∨ (∃ r, o = .completed r ∧ r &&& e.gateMask ≠ e.gateMatch &&& e.gateMask) →
          ∃ w : Option SkipWindow, FailWindow it.index e w ∧
            exec c s = .next (late.foldl lateStep
              (runWalk { t with ctrl := wentOn { t.ctrl with window := w } })))) ∧
      (s.ctrl.walker = .draining → exec c s = .next (late.foldl lateStep t))

/-- A completion as its receivers take it. DONE of an EXCHANGE writes the slot it names and no other: the
field, the frame number, FRESH, the limit verdict, the overwrite flag set where a FRESH value of a watched
slot is lost, with SAMPLE_OVERWRITE; then the alert that the verdict selects, HIGH, LOW or RETURN, where
its own enable is on. FAULT of an EXCHANGE changes
status and fault kind and posts the FAULT alert. Then a FAULT raises the lane's source, and the outcome is
counted. SKIPPED, ABORTED and the other kinds reach the count alone, the lane's fault source apart
(R39, R66, R77, R80, R81, R82, R83, R95, R99, R100). -/
def Obligations.CompletionReachesItsReceivers : Prop :=
  ∀ (n : Fin 4) (it : Item) (s : State), s.ctrl.walker ≠ .heldGate ∨ it.kind ≠ .gate →
    (∀ r : Value, it.kind = .exchange → ∀ (old : Slot) (cfg : SlotConfig) (v : Value)
        (verdict : LimitState × AlertKind),
      old = s.samples.slots[it.slot] → cfg = s.limits[it.slot] →
      v = extractField r it.extShift.toNat it.extWidth it.extSigned →
      verdict = evaluateLimit cfg old.limit v →
      ∀ (lost enabled : Bool) (written : State), (lost = true ↔ cfg.watch = true ∧ old.status = .fresh) →
        (enabled = true ↔ verdict.2 = .high ∧ cfg.highAlert = true ∨
          verdict.2 = .low ∧ cfg.lowAlert = true ∨ verdict.2 = .back ∧ cfg.returnAlert = true) →
        written = { s with
          samples := { s.samples with slots := s.samples.slots.set it.slot.val {
            value := v, sequence := it.frame, status := .fresh, faultKind := none, limit := verdict.1
            overwrite := old.overwrite || lost } it.slot.isLt }
          events := if lost then s.events.raise srcSampleOverwrite else s.events
          ctrl := { s.ctrl with current := { s.ctrl.current with
            completed := s.ctrl.current.completed + 1 } } } →
        complete n it (.completed r) s =
          if enabled then postAlert verdict.2 it.slot it.frame v written
          else written) ∧
    (∀ f : FaultKind, it.kind = .exchange → ∀ (old : Slot) (written : State),
      old = s.samples.slots[it.slot] →
      written = { s with
        samples := { s.samples with
          slots := s.samples.slots.set it.slot.val
            { old with status := .fault, faultKind := some f } it.slot.isLt }
        ctrl := { s.ctrl with current := { s.ctrl.current with
          faulted := s.ctrl.current.faulted + 1 } } } →
      complete n it (.fault f) s = raise (laneFaultSource n)
        (if (s.limits[it.slot]).faultAlert then postAlert .fault it.slot old.sequence old.value written
          else written)) ∧
    (∀ r : Value, it.kind ≠ .exchange → complete n it (.completed r) s = { s with
      ctrl := { s.ctrl with current := { s.ctrl.current with
        completed := s.ctrl.current.completed + 1 } } }) ∧
    (∀ f : FaultKind, it.kind ≠ .exchange → complete n it (.fault f) s = { s with
      events := s.events.raise (laneFaultSource n)
      ctrl := { s.ctrl with current := { s.ctrl.current with
        faulted := s.ctrl.current.faulted + 1 } } }) ∧
    complete n it .skipped s = { s with ctrl := { s.ctrl with current := { s.ctrl.current with
      laneSkipped := s.ctrl.current.laneSkipped + 1 } } } ∧
    complete n it .aborted s = { s with ctrl := { s.ctrl with current := { s.ctrl.current with
      aborted := s.ctrl.current.aborted + 1 } } }

/-- Extraction: field bit j is response bit ext_shift + j, and every bit above the field is the field's
top bit where signed and 0 where not; a DONE of an EXCHANGE stores the 32 bits so formed as the value of
its slot, and the value of no other slot changes (R78). -/
def Obligations.ExtractionTakesTheField : Prop :=
  (∀ (r : Value) (shift width : Nat) (signed : Bool), 1 ≤ width → shift + width ≤ 32 →
    (∀ j < width, (extractField r shift width signed).getLsbD j = r.getLsbD (shift + j)) ∧
    ∀ j, width ≤ j → j < 32 →
      (extractField r shift width signed).getLsbD j = (signed && r.getLsbD (shift + width - 1))) ∧
  ∀ (n : Fin 4) (it : Item) (r : Value) (s : State), it.kind = .exchange → ∀ i : Fin 64,
    ((complete n it (.completed r) s).samples.slots[i]).value =
      if i = it.slot then extractField r it.extShift.toNat it.extWidth it.extSigned
      else (s.samples.slots[i]).value

/-- The limit evaluation by the table of R98, every comparison of signed numbers and the two thresholds
cut off at the ends of the signed range; a DONE of an EXCHANGE sets its slot's limit state so, from the
slot's configuration, the state it held and its new value (R98). -/
def Obligations.LimitEvaluation : Prop :=
  (∀ (n : Fin 4) (it : Item) (r : Value) (s t : State), it.kind = .exchange →
    t = complete n it (.completed r) s →
    (t.samples.slots[it.slot]).limit = (evaluateLimit s.limits[it.slot]
      (s.samples.slots[it.slot]).limit (t.samples.slots[it.slot]).value).1) ∧
  ∀ (c : SlotConfig) (v : Value),
    (c.limitEnable = false → ∀ before, evaluateLimit c before v = (.unknown, .none)) ∧
    (c.limitEnable = true →
      (∀ before, before = .unknown ∨ before = .inBand →
        (c.high.toInt < v.toInt → evaluateLimit c before v = (.high, .high)) ∧
        (v.toInt ≤ c.high.toInt → v.toInt < c.low.toInt → evaluateLimit c before v = (.low, .low)) ∧
        (v.toInt ≤ c.high.toInt → c.low.toInt ≤ v.toInt →
          evaluateLimit c before v = (.inBand, .none))) ∧
      ((v.toInt < c.low.toInt → evaluateLimit c .high v = (.low, .low)) ∧
        (c.low.toInt ≤ v.toInt →
          v.toInt ≤ max (c.high.toInt - c.hysteresis.toInt) (-2147483648) →
          evaluateLimit c .high v = (.inBand, .back)) ∧
        (c.low.toInt ≤ v.toInt →
          max (c.high.toInt - c.hysteresis.toInt) (-2147483648) < v.toInt →
          evaluateLimit c .high v = (.high, .none))) ∧
      (c.high.toInt < v.toInt → evaluateLimit c .low v = (.high, .high)) ∧
      (v.toInt ≤ c.high.toInt → min (c.low.toInt + c.hysteresis.toInt) 2147483647 ≤ v.toInt →
        evaluateLimit c .low v = (.inBand, .back)) ∧
      (v.toInt ≤ c.high.toInt → v.toInt < min (c.low.toInt + c.hysteresis.toInt) 2147483647 →
        evaluateLimit c .low v = (.low, .none)))

/-- HELD_QUEUE_RELEASE: with a place free on the held entry's lane, the entry is counted due and issued, its
item reaches that lane, and the walker goes on or holds for its gate. A lane at work takes it at the tail; a
lane that has halted since, or has been cleared to IDLE, is empty, and takes it as `ItemReachesItsLane` says.
With no place free nothing changes (R34, R35, R54, R67). That the release is a step of its own, that it
changes nothing with no place free, and that the walk runs on inside it are the model's (log entries 2, 3,
4). -/
def Obligations.HeldQueueRelease : Prop :=
  ∀ (s : State) (e : Entry) (k : ItemKind) (l : Lane) (it : Item) (c : Ctrl), Running s →
    s.ctrl.walker = .heldQueue → e = (activeBank s)[s.ctrl.position] → e.itemKind = some k →
    l = s.lanes[e.lane] → it = makeItem s.ctrl.position k e s.ctrl.frame →
    c = { s.ctrl with current := { s.ctrl.current with
      due := s.ctrl.current.due + 1, issued := s.ctrl.current.issued + 1 } } →
    (l.phase.item ≠ none → l.queue.length < 4 →
      exec .heldQueueRelease s = .next (runWalk { s with
        lanes := s.lanes.set e.lane.val { l with queue := l.queue ++ [it] } e.lane.isLt
        ctrl := if k = .gate then { c with walker := .heldGate } else wentOn c })) ∧
    (l.phase = .halted ∨ l.phase = .idle → l.queue = [] →
      exec .heldQueueRelease s = .next (runWalk (enqueue e.lane it { s with
        ctrl := if k = .gate then { c with walker := .heldGate } else wentOn c }))) ∧
    (l.phase.item ≠ none → 4 ≤ l.queue.length → exec .heldQueueRelease s = .next s)

/-- The fields of an entry stand in the places of 11.2, the kind by its code, 6 and 7 naming none. The item that
the walker makes of an entry carries its fields and the frame number; and it reaches its lane: an IDLE lane with nothing waiting begins it at once, a PAUSE by
pausing, another with a ready wait where the entry asks for one, otherwise by shifting; a lane at work keeps
it at the tail; a HALTED lane completes it SKIPPED at once, which is counted and touches nothing else, but
that a gate for which the walker holds has then failed (R8, R34, R36, R37, R54, R55, R67, R179). In loopback the
ready wait is skipped, which is the model's choice (log entry 21). -/
def Obligations.ItemReachesItsLane : Prop :=
  (∀ (e : Entry) (w : Fin 8 → Word), (∀ k, w k = e.word k) →
    (e.kind = match (w 0).toNat % 8 with
      | 0 => some .empty | 1 => some .exchange | 2 => some .write | 3 => some .gate | 4 => some .pause
      | 5 => some .endWalk | _ => none) ∧
    (e.itemKind = match (w 0).toNat % 8 with
      | 1 => some .exchange | 2 => some .write | 3 => some .gate | 4 => some .pause | _ => none) ∧
    e.rate.toNat = (w 0).toNat / 8 % 8 ∧ e.phase.toNat = (w 0).toNat / 64 % 128 ∧
    e.waitReady = (w 0).getLsbD 13 ∧ e.select.toNat = (w 0).toNat / 16384 ∧
    e.lane.val = (w 1).toNat % 4 ∧ e.outLen.toNat = (w 1).toNat / 4 % 64 ∧
    e.inLen.toNat = (w 1).toNat / 256 % 64 ∧ e.extSigned = (w 1).getLsbD 15 ∧
    e.outWord = w 3 ++ w 2 ∧ e.skip.toNat = (w 3).toNat / 4096 ∧
    e.slot.val = (w 4).toNat % 64 ∧ e.extShift.toNat = (w 4).toNat / 64 % 32 ∧
    e.extWidth = (w 4).toNat / 2048 + 1 ∧ e.duration = w 4 ∧
    e.gateMask = w 5 ++ w 4 ∧ e.gateMatch = w 7 ++ w 6) ∧
  (∀ (i : Fin 64) (k : ItemKind) (e : Entry) (frame : Word), makeItem i k e frame = {
    index := i, kind := k, frame := frame, select := e.select, waitReady := e.waitReady
    outLen := e.outLen, outWord := e.outWord, inLen := e.inLen, slot := e.slot, extShift := e.extShift
    extWidth := e.extWidth, extSigned := e.extSigned, duration := e.duration }) ∧
  ∀ (n : Fin 4) (it : Item) (s : State) (l : Lane) (skipped : FrameReport), l = s.lanes[n] →
    skipped = { s.ctrl.current with laneSkipped := s.ctrl.current.laneSkipped + 1 } →
    (l.phase = .idle → l.queue = [] → enqueue n it s = { s with
      lanes := s.lanes.set n.val { l with
        phase :=
          if it.kind = .pause then .pausing it 0
          else if it.waitReady = true ∧ l.cfg.loopback = false then .readyWait it 0
          else .shifting it } n.isLt }) ∧
    (l.phase.item ≠ none → enqueue n it s = { s with
      lanes := s.lanes.set n.val { l with queue := l.queue ++ [it] } n.isLt }) ∧
    (l.phase = .halted → l.queue = [] → it.kind ≠ .gate ∨ s.ctrl.walker ≠ .heldGate →
      enqueue n it s = { s with ctrl := { s.ctrl with current := skipped } }) ∧
    (l.phase = .halted → l.queue = [] → it.kind = .gate → s.ctrl.walker = .heldGate →
      s.ctrl.position = it.index → ∃ w : Option SkipWindow,
        FailWindow it.index (activeBank s)[it.index] w ∧
        enqueue n it s = { s with ctrl := wentOn { s.ctrl with current := skipped, window := w } })

/-! ### Event controller -/

/-- A read of EV_CLAIM takes the eligible source of the highest level, of those the lowest number, out of
the pending set and onto the stack at its configured level, and returns its number; with no eligible
source it returns FFh and changes nothing (R132, R133). -/
def Obligations.EvClaim : Prop :=
  ∀ (s : State) (eligible : Fin 16 → Prop), Running s →
    (∀ n, eligible n ↔ isPending s n = true ∧ (s.events.sources[n]).masked = false ∧
      s.events.threshold.toNat < (s.events.sources[n]).level.toNat ∧
      ∀ top rest, s.events.stack = top :: rest → top.level.toNat < (s.events.sources[n]).level.toNat) →
    (∀ n, eligible n →
      (∀ m, eligible m → (s.events.sources[m]).level.toNat ≤ (s.events.sources[n]).level.toNat ∧
        ((s.events.sources[m]).level = (s.events.sources[n]).level → n ≤ m)) →
      ∃ t, exec .evClaim s = .next t ∧ isPending t n = false ∧ t = { s with
        events := { s.events with
          edges := clearBit s.events.edges n
          stack := { source := n, level := (s.events.sources[n]).level } :: s.events.stack }
        window := { s.window with lastRead := some (BitVec.ofNat 16 n.val) } }) ∧
    ((∀ n, ¬ eligible n) →
      exec .evClaim s = .next { s with window := { s.window with lastRead := some 0x00FF } })

/-- A write of EV_DONE: DONE_EMPTY on an empty stack, DONE_MISMATCH for any value but the top source's
number, and otherwise the top is popped and nothing else changes (R135). -/
def Obligations.EvDone : Prop :=
  ∀ (v : Word) (s : State), Running s →
    (s.events.stack = [] → exec (.evDone v) s = .next (refuseWrite .doneEmpty 0x18 s)) ∧
    (∀ top rest, s.events.stack = top :: rest →
      (v.toNat ≠ top.source.val → exec (.evDone v) s = .next (refuseWrite .doneMismatch 0x18 s)) ∧
      (v.toNat = top.source.val →
        exec (.evDone v) s = .next { s with events := { s.events with stack := rest } }))

/-- A write of EV_RAISE raises source 14 whatever its value, and a read of its address returns 0. A raise
makes an unmasked source pending, leaves a pending one pending, and is discarded for a masked one; no
other source is reached (R125, R137). -/
def Obligations.EvRaise : Prop :=
  (∀ (v : Word) (s : State), Running s →
    exec (.evRaise v) s = .next { s with events := s.events.raise 14 } ∧ registerWord 0x1C s = 0) ∧
  ∀ (e : Events) (n : Fin 16),
    ((e.sources[n]).masked = true → e.raise n = e) ∧
    ((e.sources[n]).masked = false → e.raise n = { e with edges := (e.raise n).edges } ∧
      ∀ m : Fin 16, (e.raise n).edges.getLsbD m.val = (decide (m = n) || e.edges.getLsbD m.val))

/-- A write of EV_THRESH sets threshold and polarity at once in every state; a read returns both; a
threshold of 7 leaves no source eligible; power-on reset gives 0 and active low, soft reset 0 and the
polarity kept (R131). -/
def Obligations.EvThreshold : Prop :=
  ∀ (v : Word) (s : State), Running s →
    exec (.evThreshWrite v) s = .next { s with events := { s.events with
      threshold := v.setWidth 3, irqActiveHigh := v.getLsbD 8 } } ∧
    registerWord 0x19 s =
      BitVec.ofNat 16 (s.events.threshold.toNat + 256 * s.events.irqActiveHigh.toNat) ∧
    (s.events.threshold = 7 → irqActive s = false) ∧
    (∃ t, exec .powerOnReset s = .next t ∧ t.events.threshold = 0 ∧ t.events.irqActiveHigh = false) ∧
    ∃ t, exec .softReset s = .next t ∧ t.events.threshold = 0 ∧
      t.events.irqActiveHigh = s.events.irqActiveHigh

/-- IRQ is active exactly when a pending source is unmasked with a level above the threshold and above the
top of the stack; an edge source is pending by its flag, ALERT_READY while the queue holds a record and it
is unmasked and not in service. The pin shows it by the polarity and is high in power-on reset (R126,
R129, R130). -/
def Obligations.IrqLine : Prop :=
  ∀ s : State,
    (irqActive s = true ↔ ∃ n : Fin 16, isPending s n = true ∧ (s.events.sources[n]).masked = false ∧
      s.events.threshold.toNat < (s.events.sources[n]).level.toNat ∧
      ∀ top rest, s.events.stack = top :: rest → top.level.toNat < (s.events.sources[n]).level.toNat) ∧
    (∀ n : Fin 16, n ≠ 8 → isPending s n = s.events.edges.getLsbD n.val) ∧
    (isPending s 8 = true ↔ s.alerts.records ≠ [] ∧ (s.events.sources[(8 : Fin 16)]).masked = false ∧
      ∀ x ∈ s.events.stack, x.source ≠ 8) ∧
    (s.inReset = true → irqPin s = true) ∧
    (Running s → (s.events.irqActiveHigh = false → irqPin s = !irqActive s) ∧
      (s.events.irqActiveHigh = true → irqPin s = irqActive s))

/-! ### Alerts and samples -/

/-- An acknowledgement by either reader removes the head whose serial it names, and otherwise nothing: the
host's outcome stands in ALERT_CTRL, the mirror's is its status byte and leaves ALERT_CTRL; a host value
above 255 is BAD_VALUE; ALERT_READY has its condition while a record is left (R106, R107, R152). That the
mirror row takes the rest of its request with it is the model's (log entry 8). -/
def Obligations.Acknowledgements : Prop :=
  ∀ s : State, Running s →
    (∀ v : Word, v.toNat ≤ 255 →
      (s.alerts.records = [] →
        exec (.alertAck v) s = .next { s with alerts := { s.alerts with hostAck := .empty } }) ∧
      (∀ head rest, s.alerts.records = head :: rest →
        (head.serial.toNat = v.toNat → exec (.alertAck v) s =
          .next { s with alerts := { s.alerts with records := rest, hostAck := .accepted } }) ∧
        (head.serial.toNat ≠ v.toNat → exec (.alertAck v) s =
          .next { s with alerts := { s.alerts with hostAck := .stale } }))) ∧
    (∀ v : Word, 256 ≤ v.toNat → exec (.alertAck v) s = .next (refuseWrite .badValue 0x17 s)) ∧
    (registerWord 0x17 s).toNat / 64 % 4 = s.alerts.hostAck.code.toNat ∧
    (s.alerts.ready = true ↔ s.alerts.records ≠ []) ∧
    (∀ serial : Byte, s.mirror.transaction = .request → s.mirror.agrees 0x41 serial = true →
      (s.alerts.records = [] → exec (.ackAlert serial) s = .next (responding 0x41 serial .empty s)) ∧
      (∀ head rest, s.alerts.records = head :: rest →
        (head.serial = serial → exec (.ackAlert serial) s = .next { responding 0x41 serial .accepted s with
          alerts := { s.alerts with records := rest } }) ∧
        (head.serial ≠ serial → exec (.ackAlert serial) s = .next (responding 0x41 serial .stale s))))

/-- A read of ALERT_W0 puts the head record, or the empty marker with the next serial, into the host alert
latch and returns its kind and slot; the queue stays (R101, R105). A post enters a queue of fewer than
sixteen records at the tail with the next serial, which moves on modulo 256; at sixteen it is dropped, the
lost flag is set and ALERT_LOST is raised (R102, R103). -/
def Obligations.AlertPeekAndPost : Prop :=
  (∀ (s : State) (r : AlertRecord), Running s →
    (s.alerts.records = [] ∧
        r = { serial := s.alerts.nextSerial, kind := .none, slot := 0, sequence := 0, value := 0 } ∨
      ∃ rest, s.alerts.records = r :: rest) →
    exec .hostAlertPeek s = .next { s with
      alerts := { s.alerts with hostLatch := r }
      window := { s.window with
        lastRead := some (BitVec.ofNat 16 (r.kind.code.toNat + 8 * r.slot.val)) } }) ∧
  ∀ (kind : AlertKind) (slot : Fin 64) (sequence : Word) (value : Value) (s : State),
    (s.alerts.records.length < 16 → postAlert kind slot sequence value s = { s with
      alerts := { s.alerts with
        records := s.alerts.records ++ [{
          serial := s.alerts.nextSerial, kind := kind, slot := slot, sequence := sequence
          value := value }]
        nextSerial := s.alerts.nextSerial + 1 } }) ∧
    (16 ≤ s.alerts.records.length → postAlert kind slot sequence value s = { s with
      alerts := { s.alerts with lost := true }, events := s.events.raise srcAlertLost })

/-- A write of SAMPLE_SEL with slot 0 to 63 copies that record into the latch and, with consume, turns
FRESH into READ and clears the overwrite flag in the table alone; slot 64 to 255 is TABLE_RANGE (R86,
R87). -/
def Obligations.SampleSelect : Prop :=
  ∀ (slot : Byte) (s : State), Running s →
    (∀ i : Fin 64, slot.toNat = i.val → ∀ r : Slot, r = s.samples.slots[i] →
      exec (.samplePeek slot) s = .next { s with samples := { s.samples with
        latchIndex := i, latch := r, selSlot := i, selConsume := false } } ∧
      exec (.sampleSnapshotConsume slot) s = .next { s with samples := { s.samples with
        slots := s.samples.slots.set i.val
          { r with status := (if r.status = .fresh then .read else r.status), overwrite := false } i.isLt
        latchIndex := i, latch := r, selSlot := i, selConsume := true } }) ∧
    (64 ≤ slot.toNat → exec (.samplePeek slot) s = .next (refuseWrite .tableRange 0x0E s) ∧
      exec (.sampleSnapshotConsume slot) s = .next (refuseWrite .tableRange 0x0E s))

/-! ### The table port and the window -/

/-- A read of TABLE_DATA inside the selected table returns the word and moves the address on by one; word
2 of table 6 also empties the mirror error latch; outside the table the read returns 0000h and is
TABLE_RANGE (R156, R164, R166). The words of tables 2 to 6 hold the fields in the places of 11.2; those of
tables 0 and 1 are stated in `StagedBankWrite`. That the command byte of a mirror error without one reads 00h
is the model's choice (log entry 33). -/
def Obligations.TableDataRead : Prop :=
  (∀ s : State, Running s →
    (s.window.tableAddr.toNat < wordsOf s.window.tableSel →
      ¬ (s.window.tableSel = .latches ∧ s.window.tableAddr = 2) →
      exec .tableDataRead s = .next { s with window := { s.window with
        tableAddr := s.window.tableAddr + 1
        lastRead := some (tableWord s.window.tableSel s.window.tableAddr s) } }) ∧
    (s.window.tableSel = .latches → s.window.tableAddr = 2 →
      exec .tableDataRead s = .next { s with
        mirror := { s.mirror with error := none, errorRepeat := false }
        window := { s.window with tableAddr := 3, lastRead := some (tableWord .latches 2 s) } }) ∧
    (wordsOf s.window.tableSel ≤ s.window.tableAddr.toNat →
      exec .tableDataRead s = .next { accessError .tableRange 0x0D false s with
        window := { (accessError .tableRange 0x0D false s).window with lastRead := some 0 } })) ∧
  ∀ (s : State) (word : Table → Nat → Word), (∀ t a, word t a = tableWord t (BitVec.ofNat 16 a) s) →
    (∀ (i : Fin 64) (c : SlotConfig) (w : Nat → Word), c = s.limits[i] →
      (∀ k, w k = word .slotConfig (8 * i.val + k)) →
      w 1 ++ w 0 = c.high ∧ w 3 ++ w 2 = c.low ∧ w 5 ++ w 4 = c.hysteresis ∧
      (w 6).toNat = c.limitEnable.toNat + 2 * c.highAlert.toNat + 4 * c.lowAlert.toNat +
        8 * c.returnAlert.toNat + 16 * c.faultAlert.toNat + 32 * c.watch.toNat ∧ w 7 = 0) ∧
    (∀ (n : Fin 4) (c : LaneConfig) (w : Nat → Word), c = (s.lanes[n]).cfg →
      (∀ k, w k = word .laneConfig (4 * n.val + k)) →
      (w 0).toNat = c.clockMode.toNat + 4 * c.lsbFirst.toNat + 8 * c.selectActiveHigh.toNat +
        16 * c.fillBit.toNat + 32 * c.loopback.toNat + 64 * c.responseCheck.toNat +
        128 * c.haltOnFault.toNat + 256 * c.ready.code.toNat ∧
      (w 1).toNat = c.readyTimeout.toNat ∧ (w 2).toNat = c.gap.toNat ∧
      (w 3).toNat = c.divider.toNat + 32768 * c.enable.toNat) ∧
    (∀ n : Fin 16, (word .sourceConfig n.val).toNat =
      (s.events.sources[n]).masked.toNat + 16 * (s.events.sources[n]).level.toNat) ∧
    (∀ (r : FrameReport) (w : Nat → Word),
      (r = s.ctrl.current ∧ ∀ k, w k = word .reports k) ∨
        (r = s.ctrl.last ∧ ∀ k, w k = word .reports (8 + k)) →
      (∀ count ∈ [r.due, r.issued, r.completed, r.faulted, r.laneSkipped, r.aborted, r.gateSkipped,
        r.rejected], count ≤ 64) →
      w 0 = r.frame ∧ (w 1).toNat = r.outcome.code.toNat + 256 * r.due ∧
      (w 2).toNat = r.issued + 256 * r.completed ∧ (w 3).toNat = r.faulted + 256 * r.laneSkipped ∧
      (w 4).toNat = r.aborted + 256 * r.gateSkipped ∧ (w 5).toNat = r.rejected ∧ w 6 = 0 ∧ w 7 = 0) ∧
    (∀ w : Nat → Word, (∀ k, w k = word .latches k) →
      (s.ctrl.schedError = none → w 0 = 0 ∧ w 1 = 0) ∧
      (∀ r, s.ctrl.schedError = some r → w 0 = r.frame ∧
        (w 1).toNat = r.index.val + 256 * r.reason.code.toNat + 32768 * s.ctrl.schedRepeat.toNat) ∧
      (s.mirror.error = none → w 2 = 0) ∧
      (∀ r, s.mirror.error = some r →
        (∀ b, r.command = some b →
          (w 2).toNat = r.error.code.toNat + 4 + 8 * s.mirror.errorRepeat.toNat + 256 * b.toNat) ∧
        (r.command = none → (w 2).toNat = r.error.code.toNat + 8 * s.mirror.errorRepeat.toNat)) ∧
      (s.window.accessError = none → w 3 = 0) ∧
      (∀ r, s.window.accessError = some r →
        (w 3).toNat = r.tableAddrLow.toNat + 8192 * r.tableSel.code.toNat) ∧
      w 4 = 0 ∧ w 5 = 0 ∧ w 6 = 0 ∧ w 7 = 0)

/-- What a host read of each register returns, its fields in the places of 11.1, and the codes that the
registers, the tables and the mirror records give the named values (R89, R107, R121, R138, R161, R168, R171,
R178). The words of ALERT_W0, EV_CLAIM and EV_THRESH are stated in `AlertPeekAndPost`, `EvClaim` and
`EvThreshold`. D15 to D0 carry the word of the register of which a read is strobed, and are high-impedance where
none is, and in power-on reset (R159); that the read rows leave that word as the last one read is the model's own
record (log entry 16). -/
def Obligations.RegisterWords : Prop :=
  (∀ s : State,
    (s.inReset = true → ∀ read, dataBus read s = none) ∧ dataBus none s = none ∧
    (Running s → (∀ a, dataBus (some a) s = some (registerWord a s)) ∧
      ∀ (c : Instr) (a : BitVec 5), (c, a) ∈ [(.evClaim, 0x18#5), (.hostAlertPeek, 0x13#5),
          (.mirrorNoteRead, 0x1F#5), (.tableDataRead, 0x0D#5)] →
        ∃ t, exec c s = .next t ∧ t.window.lastRead = dataBus (some a) s)) ∧
  (∀ (s : State) (word : BitVec 5 → Word), (∀ a, word a = registerWord a s) →
    (word 0x00 = 0xA601 ∧
      (word 0x01).toNat = s.ctrl.state.code.toNat + 4 * s.ctrl.walker.code.toNat +
        32 * s.ctrl.stopPending.toNat + 64 * s.ctrl.deferred.toNat +
        128 * s.ctrl.commitPending.toNat + 256 * s.ctrl.active.code.toNat ∧
      (word 0x02).toNat = s.window.result.code.toNat + 256 * s.window.resultIndex.val ∧
      word 0x03 = s.window.cmdArg) ∧
    ((s.window.accessError = none → word 0x04 = 0) ∧
      (∀ r, s.window.accessError = some r → (word 0x04).toNat = r.error.code.toNat +
        16 * r.addr.toNat + 512 * r.isWrite.toNat + 32768 * s.window.accessRepeat.toNat)) ∧
    (word 0x05 = s.ctrl.frame ∧ (word 0x06).toNat = s.ctrl.overruns.toNat ∧
      (word 0x07).toNat = s.timer.mode.code.toNat + 4 * s.timer.fallingEdge.toNat +
        8 * s.timer.deferPolicy.toNat + 32768 * s.timer.counting.toNat ∧
      word 0x08 = s.timer.divider ∧ word 0x09 = s.timer.period ∧ word 0x0A = s.timer.count) ∧
    ((word 0x0B).toNat = s.window.tableSel.code.toNat ∧ word 0x0C = s.window.tableAddr ∧
      (s.window.tableAddr.toNat < wordsOf s.window.tableSel →
        word 0x0D = tableWord s.window.tableSel s.window.tableAddr s) ∧
      (wordsOf s.window.tableSel ≤ s.window.tableAddr.toNat → word 0x0D = 0)) ∧
    ((word 0x0E).toNat = s.samples.selSlot.val + 32768 * s.samples.selConsume.toNat ∧
      (word 0x0F).toNat = s.samples.latchIndex.val + 64 * s.samples.latch.status.code.toNat +
        256 * (faultKindCode s.samples.latch.faultKind).toNat +
        1024 * s.samples.latch.limit.code.toNat + 4096 * s.samples.latch.overwrite.toNat ∧
      word 0x11 ++ word 0x10 = s.samples.latch.value ∧ word 0x12 = s.samples.latch.sequence) ∧
    (word 0x14 = s.alerts.hostLatch.sequence ∧ word 0x16 ++ word 0x15 = s.alerts.hostLatch.value ∧
      (s.alerts.records.length ≤ 16 → (word 0x17).toNat = s.alerts.records.length +
        32 * s.alerts.lost.toNat + 64 * s.alerts.hostAck.code.toNat +
        256 * s.alerts.hostLatch.serial.toNat)) ∧
    ((∀ n : Fin 16, (word 0x1A).getLsbD n.val = isPending s n) ∧
      (s.events.stack = [] → word 0x1B = 0xFF00) ∧
      (∀ top rest, s.events.stack = top :: rest → rest.length ≤ 6 →
        (word 0x1B).toNat = rest.length + 1 + 16 * top.level.toNat + 256 * top.source.val) ∧
      word 0x1C = 0) ∧
    (∀ n : Fin 4, (word 0x1D).toNat / 8 ^ n.val % 8 = (s.lanes[n]).phase.code.toNat) ∧
    (word 0x1D).toNat < 4096 ∧
    (word 0x1E).toNat = s.mirror.cfg.enable.toNat + 2 * s.mirror.cfg.clockMode.toNat ∧
    (word 0x1F).toNat =
      s.mirror.note.toNat + 256 * s.mirror.unread.toNat + 512 * s.mirror.overwrite.toNat) ∧
  ([CtrlState.stopped, .waiting, .active].map CtrlState.code = [0, 1, 2] ∧
    [WalkerState.idle, .issuing, .heldQueue, .heldGate, .draining].map WalkerState.code =
      [0, 1, 2, 3, 4] ∧
    [BankName.a, .b].map BankName.code = [0, 1] ∧
    [CmdResult.accepted, .refusedState, .refusedArg, .refusedBank, .refusedCode].map CmdResult.code =
      [0, 1, 2, 3, 4] ∧
    [AccessError.readOnlyTarget, .tableRange, .bankFrozen, .configBusy, .badValue, .doneEmpty,
      .doneMismatch].map AccessError.code = [1, 2, 3, 4, 5, 6, 7] ∧
    [TimerMode.off, .periodic, .oneShot, .external].map TimerMode.code = [0, 1, 2, 3] ∧
    [Table.staged, .active, .slotConfig, .laneConfig, .sourceConfig, .reports, .latches].map Table.code =
      [0, 1, 2, 3, 4, 5, 6] ∧
    [SlotStatus.empty, .fresh, .read, .fault].map SlotStatus.code = [0, 1, 2, 3] ∧
    [none, some FaultKind.readyTimeout, some .stuckResponse].map faultKindCode = [0, 1, 2] ∧
    [LimitState.unknown, .inBand, .high, .low].map LimitState.code = [0, 1, 2, 3] ∧
    [AlertKind.none, .high, .low, .back, .fault].map AlertKind.code = [0, 1, 2, 3, 4] ∧
    [AckOutcome.none, .accepted, .stale, .empty].map AckOutcome.code = [0, 1, 2, 3] ∧
    [ReadyInput.disabled, .activeHigh, .activeLow].map ReadyInput.code = [0, 1, 2] ∧
    [FrameOutcome.inProgress, .complete, .aborted].map FrameOutcome.code = [0, 1, 2] ∧
    [RejectReason.laneDisabled, .readyUnavailable].map RejectReason.code = [1, 2] ∧
    [MirrorError.incomplete, .unknown, .refused].map MirrorError.code = [1, 2, 3] ∧
    ∀ it k o, [LanePhase.disabled, .idle, .readyWait it k, .shifting it, .gap it o, .pausing it k,
      .halted].map LanePhase.code = [0, 1, 2, 3, 4, 5, 6])

/-- A write through selector 0 stores one word of the staged bank, every other word and the active bank as
they were, unless a commit is pending, which is BANK_FROZEN; through selector 1 it is READ_ONLY_TARGET; a
read through the port then returns each word as it stands; and no mirror row writes either bank (R12, R13,
R164). That the row follows TABLE_SEL as it stands, with selector 1 too, is the model's choice (log entry
14). -/
def Obligations.StagedBankWrite : Prop :=
  ∀ (v : Word) (s : State), Running s →
    (s.window.tableSel = .staged → s.window.tableAddr.toNat < 512 → s.ctrl.commitPending = false →
      ∃ t, exec (.stagedBankWrite v) s = .next t ∧
        t = { s with
          bankA := t.bankA, bankB := t.bankB
          window := { s.window with tableAddr := s.window.tableAddr + 1 } } ∧
        activeBank t = activeBank s ∧
        ∀ (i : Fin 64) (k : Fin 8), ((stagedBank t)[i]).word k =
          if 8 * i.val + k.val = s.window.tableAddr.toNat then v else ((stagedBank s)[i]).word k) ∧
    (s.window.tableSel = .staged → s.window.tableAddr.toNat < 512 → s.ctrl.commitPending = true →
      exec (.stagedBankWrite v) s = .next (refuseWrite .bankFrozen 0x0D s)) ∧
    (s.window.tableSel = .active → s.window.tableAddr.toNat < 512 →
      exec (.stagedBankWrite v) s = .next (refuseWrite .readOnlyTarget 0x0D s)) ∧
    (s.window.tableSel = .staged ∨ s.window.tableSel = .active → 512 ≤ s.window.tableAddr.toNat →
      exec (.stagedBankWrite v) s = .next (refuseWrite .tableRange 0x0D s)) ∧
    (∀ c t, isMirrorRow c = true → exec c s = .next t → t.bankA = s.bankA ∧ t.bankB = s.bankB) ∧
    ∀ (i : Fin 64) (k : Fin 8) (a : Word), a.toNat = 8 * i.val + k.val →
      tableWord .staged a s = ((stagedBank s)[i]).word k ∧
      tableWord .active a s = ((activeBank s)[i]).word k

/-- A write through selector 2 replaces the fields packed in one word of one slot's configuration, in
every controller state; the high word of a hysteresis with its top bit set is BAD_VALUE (R95, R96). A
write through selector 4 replaces mask and level of one source; level 0 is BAD_VALUE (R124, R127). With
TABLE_ADDR outside the table, each is TABLE_RANGE (R164, R165). -/
def Obligations.SlotAndSourceConfigWrite : Prop :=
  ∀ (v : Word) (s : State), Running s →
    (∀ (i : Fin 64) (k : Nat) (old new : SlotConfig), s.window.tableSel = .slotConfig →
      s.window.tableAddr.toNat = 8 * i.val + k → old = s.limits[i] →
      (k = 0 ∧ new = { old with high := highWord old.high ++ v } ∨
        k = 1 ∧ new = { old with high := v ++ lowWord old.high } ∨
        k = 2 ∧ new = { old with low := highWord old.low ++ v } ∨
        k = 3 ∧ new = { old with low := v ++ lowWord old.low } ∨
        k = 4 ∧ new = { old with hysteresis := highWord old.hysteresis ++ v } ∨
        k = 5 ∧ v.toNat < 32768 ∧ new = { old with hysteresis := v ++ lowWord old.hysteresis } ∨
        k = 6 ∧ new = { old with
          limitEnable := v.getLsbD 0, highAlert := v.getLsbD 1, lowAlert := v.getLsbD 2
          returnAlert := v.getLsbD 3, faultAlert := v.getLsbD 4, watch := v.getLsbD 5 } ∨
        k = 7 ∧ new = old) →
      exec (.slotConfigWrite v) s = .next { s with
        limits := s.limits.set i.val new i.isLt
        window := { s.window with tableAddr := s.window.tableAddr + 1 } }) ∧
    (∀ i : Fin 64, s.window.tableSel = .slotConfig → s.window.tableAddr.toNat = 8 * i.val + 5 →
      32768 ≤ v.toNat → exec (.slotConfigWrite v) s = .next (refuseWrite .badValue 0x0D s)) ∧
    (∀ n : Fin 16, s.window.tableSel = .sourceConfig → s.window.tableAddr.toNat = n.val →
      (v.toNat / 16 % 8 ≠ 0 → exec (.sourceConfigWrite v) s = .next { s with
        events := { s.events with
          sources := s.events.sources.set n.val
            { masked := v.getLsbD 0, level := BitVec.ofNat 3 (v.toNat / 16) } n.isLt }
        window := { s.window with tableAddr := s.window.tableAddr + 1 } }) ∧
      (v.toNat / 16 % 8 = 0 → exec (.sourceConfigWrite v) s = .next (refuseWrite .badValue 0x0D s))) ∧
    (s.window.tableSel = .slotConfig → 512 ≤ s.window.tableAddr.toNat →
      exec (.slotConfigWrite v) s = .next (refuseWrite .tableRange 0x0D s)) ∧
    (s.window.tableSel = .sourceConfig → 16 ≤ s.window.tableAddr.toNat →
      exec (.sourceConfigWrite v) s = .next (refuseWrite .tableRange 0x0D s))

/-- A write through selector 3: CONFIG_BUSY outside STOPPED whatever its value; in STOPPED a word with a
field out of range is BAD_VALUE and changes nothing, and any other word replaces the fields packed in it;
enable turned on enters IDLE, turned off enters DISABLED, left alone leaves the lane state (R50, R51, R52).
With TABLE_ADDR outside the table it is TABLE_RANGE, in STOPPED and elsewhere (R164, R165). -/
def Obligations.LaneConfigWrite : Prop :=
  (∀ (v : Word) (s : State), Running s → s.window.tableSel = .laneConfig →
    16 ≤ s.window.tableAddr.toNat →
    exec (.laneConfigWrite v) s = .next (refuseWrite .tableRange 0x0D s)) ∧
  ∀ (v : Word) (s : State) (n : Fin 4) (k : Nat) (l : Lane), Running s →
    s.window.tableSel = .laneConfig → s.window.tableAddr.toNat = 4 * n.val + k → l = s.lanes[n] →
    (k < 4 → s.ctrl.state ≠ .stopped →
      exec (.laneConfigWrite v) s = .next (refuseWrite .configBusy 0x0D s)) ∧
    (s.ctrl.state = .stopped →
      (k = 0 ∧ v.toNat / 256 % 4 = 3 ∨ k = 1 ∧ v.toNat % 4096 = 0 ∨
        k = 3 ∧ (v.toNat % 2048 = 0 ∨ 1024 < v.toNat % 2048 ∨ v.toNat % 2 = 1)) →
      exec (.laneConfigWrite v) s = .next (refuseWrite .badValue 0x0D s)) ∧
    (s.ctrl.state = .stopped → ∀ new : Lane,
      (k = 0 ∧ (∃ r : ReadyInput, v.toNat / 256 % 4 = r.code.toNat ∧
          new = { l with cfg := { l.cfg with
            clockMode := v.setWidth 2, lsbFirst := v.getLsbD 2, selectActiveHigh := v.getLsbD 3
            fillBit := v.getLsbD 4, loopback := v.getLsbD 5, responseCheck := v.getLsbD 6
            haltOnFault := v.getLsbD 7, ready := r } }) ∨
        k = 1 ∧ v.toNat % 4096 ≠ 0 ∧
          new = { l with cfg := { l.cfg with readyTimeout := v.setWidth 12 } } ∨
        k = 2 ∧ new = { l with cfg := { l.cfg with gap := v.setWidth 8 } } ∨
        k = 3 ∧ 2 ≤ v.toNat % 2048 ∧ v.toNat % 2048 ≤ 1024 ∧ v.toNat % 2 = 0 ∧
          (v.getLsbD 15 = l.cfg.enable ∧
              new = { l with cfg := { l.cfg with divider := v.setWidth 11 } } ∨
            v.getLsbD 15 = true ∧ l.cfg.enable = false ∧ new = {
              cfg := { l.cfg with divider := v.setWidth 11, enable := true }, phase := .idle
              queue := [] } ∨
            v.getLsbD 15 = false ∧ l.cfg.enable = true ∧ new = {
              cfg := { l.cfg with divider := v.setWidth 11, enable := false }, phase := .disabled
              queue := [] })) →
      exec (.laneConfigWrite v) s = .next { s with
        lanes := s.lanes.set n.val new n.isLt
        window := { s.window with tableAddr := s.window.tableAddr + 1 } })

/-- TABLE_SEL takes 0 to 6 and is BAD_VALUE above; TABLE_ADDR takes any value; each leaves the other as it
was, both read back as they stand, and no row changes either but their own writes, a TABLE_DATA access,
which may move the address, and power-on reset (R163). -/
def Obligations.TableSelectorAndAddress : Prop :=
  ∀ s : State, Running s →
    (∀ (v : Word) (t : Table), (v.toNat, t) ∈ [(0, Table.staged), (1, .active), (2, .slotConfig),
        (3, .laneConfig), (4, .sourceConfig), (5, .reports), (6, .latches)] →
      exec (.tableSelWrite v) s = .next { s with window := { s.window with tableSel := t } } ∧
      registerWord 0x0B { s with window := { s.window with tableSel := t } } = v) ∧
    (∀ v : Word, 7 ≤ v.toNat → exec (.tableSelWrite v) s = .next (refuseWrite .badValue 0x0B s)) ∧
    (∀ v : Word,
      exec (.registerWrite 0x0C v) s = .next { s with window := { s.window with tableAddr := v } }) ∧
    registerWord 0x0C s = s.window.tableAddr ∧
    ∀ (c : Instr) (t : State), exec c s = .next t → c ≠ .powerOnReset →
      (∀ v, c ≠ .tableSelWrite v) → (∀ v, c ≠ .registerWrite 0x0B v) →
      t.window.tableSel = s.window.tableSel ∧
      ((∀ v, c ≠ .registerWrite 0x0C v) → (∀ v, c ≠ .registerWrite 0x0D v) → c ≠ .tableDataRead →
        (∀ v, c ≠ .stagedBankWrite v ∧ c ≠ .slotConfigWrite v ∧ c ≠ .laneConfigWrite v ∧
          c ≠ .sourceConfigWrite v) →
        t.window.tableAddr = s.window.tableAddr)

/-- A refused access changes nothing but the report of it: an empty latch takes error, address, direction
and where the table port stood, the repeat flag clear; a full one keeps them, the repeat flag set; and
ACCESS_ERROR is raised. A write of ACCESS_ERR empties latch and detail, leaves the event controller as it
is, and the next refused access is recorded as the first (R171, R173). -/
def Obligations.AccessErrors : Prop :=
  (∀ (err : AccessError) (addr : BitVec 5) (isWrite : Bool) (s : State),
    (s.window.accessError = none → accessError err addr isWrite s = { s with
      window := { s.window with
        accessError := some {
          error := err, addr := addr, isWrite := isWrite, tableSel := s.window.tableSel
          tableAddrLow := s.window.tableAddr.setWidth 13 }
        accessRepeat := false }
      events := s.events.raise srcAccessError }) ∧
    (s.window.accessError ≠ none → accessError err addr isWrite s = { s with
      window := { s.window with accessRepeat := true }, events := s.events.raise srcAccessError }) ∧
    refuseWrite err addr s = accessError err addr true s) ∧
  ∀ (v : Word) (s : State), Running s →
    exec (.accessErrWrite v) s =
      .next { s with window := { s.window with accessError := none, accessRepeat := false } } ∧
    ∀ t, t.window.accessError = none → registerWord 0x04 t = 0 ∧ tableWord .latches 3 t = 0

/-- REGISTER_WRITE: a read-only register, and TABLE_DATA through selectors 1, 5 and 6 inside the table, is
READ_ONLY_TARGET; CMD_ARG stores any value; MIRROR_CFG stores enable and clock mode (R160, R144, R169). -/
def Obligations.RegisterWrite : Prop :=
  ∀ (v : Word) (s : State), Running s →
    (∀ a : BitVec 5, a ∈ [0x00#5, 0x01#5, 0x05#5, 0x06#5, 0x0A#5, 0x0F#5, 0x10#5, 0x11#5, 0x12#5, 0x13#5,
        0x14#5, 0x15#5, 0x16#5, 0x1A#5, 0x1B#5, 0x1D#5, 0x1F#5] →
      exec (.registerWrite a v) s = .next (refuseWrite .readOnlyTarget a s)) ∧
    (s.window.tableSel = .active ∨ s.window.tableSel = .reports ∨ s.window.tableSel = .latches →
      s.window.tableAddr.toNat < wordsOf s.window.tableSel →
      exec (.registerWrite 0x0D v) s = .next (refuseWrite .readOnlyTarget 0x0D s)) ∧
    exec (.registerWrite 0x03 v) s = .next { s with window := { s.window with cmdArg := v } } ∧
    exec (.registerWrite 0x1E v) s = .next { s with mirror := { s.mirror with
      cfg := { enable := v.getLsbD 0, clockMode := BitVec.ofNat 2 (v.toNat / 2) } } }

/-! ### Mirror port -/

/-- MSEL_ASSERT copies MIRROR_CFG into force and, with enable on, opens a transaction in REQUEST at bit
count 0 with MDO low; with enable off none begins. MSEL_DEASSERT ends whatever stands, MDO high-impedance,
and records INCOMPLETE for a request, with the command byte where all of it was received (R144, R146,
R148, R156, R157). That the row carries the level of MCLK is the model's (log entry 10), and so are
the zeros that MSEL_ASSERT gives the fields no reader sees and the values that MSEL_DEASSERT leaves in them
(log entry 24). -/
def Obligations.Selections : Prop :=
  ∀ s : State, Running s →
    (∀ mclk : Bool, s.mirror.mselAsserted = false →
      (s.mirror.cfg.enable = true → exec (.mselAssert mclk) s = .next { s with mirror := { s.mirror with
        mselAsserted := true, inForce := s.mirror.cfg, transaction := .request, bitCount := 0
        command := 0, argument := 0, records := 0, mclk := mclk, inPeriod := false
        mdo := some false } }) ∧
      (s.mirror.cfg.enable = false → exec (.mselAssert mclk) s = .next { s with mirror := { s.mirror with
        mselAsserted := true, inForce := s.mirror.cfg } })) ∧
    (s.mirror.mselAsserted = true → ∀ closed : Mirror,
      closed = { s.mirror with mselAsserted := false, transaction := .idle, mdo := none } →
      (s.mirror.transaction ≠ .request → exec .mselDeassert s = .next { s with mirror := closed }) ∧
      (s.mirror.transaction = .request → s.mirror.bitCount < 8 →
        exec .mselDeassert s = .next { s with mirror := errorLatched .incomplete none closed }) ∧
      (s.mirror.transaction = .request → 8 ≤ s.mirror.bitCount →
        exec .mselDeassert s =
          .next { s with mirror := errorLatched .incomplete (some s.mirror.command) closed }))

/-- READ_SLOT, READ_RUN, the next record of a run, READ_STATE, PEEK_ALERT and a command byte that is no
code, each at its request complete: the record goes into the mirror record latch and the status is OK; a
slot of 64 or more is REFUSED and an unknown byte UNKNOWN, both recorded in the mirror error latch; no
other block is changed. That the row takes the rest of the request's bits with it is the model's (R149,
R150, R151, R152, R155; log entries 8, 9). -/
def Obligations.MirrorRequests : Prop :=
  ∀ s : State, Running s →
    (∀ (c : Instr) (code b : Byte), c = .readSlot b ∧ code = 0x21 ∨ c = .readRun b ∧ code = 0x22 →
      s.mirror.transaction = .request → s.mirror.agrees code b = true →
      (∀ i : Fin 64, b.toNat = i.val → ∀ t, t = responding code b .ok s →
        exec c s = .next { t with mirror := { t.mirror with
          latch := .slot i s.samples.slots[i], records := 1 } }) ∧
      (64 ≤ b.toNat → ∀ t, t = responding code b .refused s →
        exec c s = .next { t with mirror := errorLatched .refused (some code) t.mirror })) ∧
    (s.mirror.transaction = .response → s.mirror.command = 0x22 → s.mirror.status = .ok →
      ∀ i : Fin 64, i.val = (s.mirror.argument.toNat + s.mirror.records) % 64 →
      ∃ t, exec .readRunNextRecord s = .next t ∧ t = { s with mirror := t.mirror } ∧
        t.mirror.latch = .slot i s.samples.slots[i] ∧ t.mirror.records = s.mirror.records + 1 ∧
        t.mirror.bitCount = 32 + 64 * s.mirror.records ∧ t.mirror.transaction = .response ∧
        t.mirror.status = .ok) ∧
    (s.mirror.transaction = .request → s.mirror.agrees 0x30 0 = true →
      ∀ t, t = responding 0x30 0 .ok s →
      exec .readState s = .next { t with mirror := { t.mirror with latch := .state {
        state := s.ctrl.state, walker := s.ctrl.walker, stopPending := s.ctrl.stopPending
        deferred := s.ctrl.deferred, commitPending := s.ctrl.commitPending, active := s.ctrl.active
        frame := s.ctrl.frame, overruns := s.ctrl.overruns
        alertCount := s.alerts.records.length } } }) ∧
    (s.mirror.transaction = .request → s.mirror.agrees 0x40 0 = true →
      ∀ t r, t = responding 0x40 0 .ok s →
      (s.alerts.records = [] ∧
          r = { serial := s.alerts.nextSerial, kind := .none, slot := 0, sequence := 0, value := 0 } ∨
        ∃ rest, s.alerts.records = r :: rest) →
      exec .peekAlert s = .next { t with mirror := { t.mirror with latch := .alert r } }) ∧
    (∀ b : Byte, b ∉ [0x21#8, 0x22#8, 0x30#8, 0x40#8, 0x41#8, 0x50#8] →
      s.mirror.transaction = .request → s.mirror.agrees b 0 = true →
      ∀ t, t = responding b 0 .unknown s →
      exec (.mirrorUnknownCommand b) s =
        .next { t with mirror := errorLatched .unknown (some b) t.mirror })

/-- POST_NOTE at request complete: the overwrite flag joins the unread flag found, the note and the unread
flag are set, then MIRROR_NOTE is raised, and the status is OK. A read of MIRROR_NOTE returns note and
flags as they stand and clears the flags; the note and a pending MIRROR_NOTE stay; a write of its address
is refused (R153, R154). That POST_NOTE takes the rest of its request with it is the model's (log entry
8). -/
def Obligations.NoteMailbox : Prop :=
  (∀ (note : Byte) (s : State), Running s → s.mirror.transaction = .request →
    s.mirror.agrees 0x50 note = true → ∀ t, t = responding 0x50 note .ok s →
    exec (.postNote note) s = .next { t with
      mirror := { t.mirror with
        note := note, unread := true, overwrite := s.mirror.overwrite || s.mirror.unread }
      events := s.events.raise srcMirrorNote }) ∧
  ∀ s : State, Running s → exec .mirrorNoteRead s = .next { s with
    mirror := { s.mirror with unread := false, overwrite := false }
    window := { s.window with lastRead := some (BitVec.ofNat 16
      (s.mirror.note.toNat + 256 * s.mirror.unread.toNat + 512 * s.mirror.overwrite.toNat)) } } ∧
    ∀ v : Word, exec (.registerWrite 0x1F v) s = .next (refuseWrite .readOnlyTarget 0x1F s)

/-- MCLK_EDGE: no effect outside REQUEST and RESPONSE or without a change of level; a return to the idle
level before the first bit period is lost; in RESPONSE the capture edge moves the bit count on and the
presentation edge puts the next bit of the response on MDO, inside a run of records too, but for the trailing
edge that ends a record, which `MirrorRowsAreTheirSamples` states; in REQUEST the capture edge takes a bit of the
command byte (R143, R145, R146, R147, R150). A row without a change of level is
no edge (log entry 2). -/
def Obligations.MclkEdge : Prop :=
  ∀ (level mdi : Bool) (s : State) (m : Mirror), Running s → m = s.mirror →
    (m.transaction = .idle ∨ m.transaction = .abandoned ∨ level = m.mclk →
      exec (.mclkEdge level mdi) s = .next s) ∧
    (m.transaction = .request ∨ m.transaction = .response → level ≠ m.mclk →
      level = m.inForce.clockMode.getLsbD 1 → m.inPeriod = false →
      exec (.mclkEdge level mdi) s = .next { s with mirror := { m with mclk := level } }) ∧
    (m.transaction = .response → level ≠ m.mclk → ∀ (bit : Bool) (endsRecord : Nat → Prop),
      bit = (m.outByte (m.bitCount / 8)).getLsbD (7 - m.bitCount % 8) →
      (∀ k, endsRecord k ↔ m.command = 0x22 ∧ m.status = .ok ∧ k = 32 + 64 * m.records) →
      (level ≠ m.inForce.clockMode.getLsbD 1 → m.inForce.clockMode.getLsbD 0 = false →
        exec (.mclkEdge level mdi) s = .next { s with mirror := { m with
          mclk := level, inPeriod := true, bitCount := m.bitCount + 1 } }) ∧
      (level ≠ m.inForce.clockMode.getLsbD 1 → m.inForce.clockMode.getLsbD 0 = true →
        exec (.mclkEdge level mdi) s = .next { s with mirror := { m with
          mclk := level, inPeriod := true, mdo := some bit } }) ∧
      (level = m.inForce.clockMode.getLsbD 1 → m.inPeriod = true →
        m.inForce.clockMode.getLsbD 0 = false → ¬ endsRecord m.bitCount →
        exec (.mclkEdge level mdi) s = .next { s with mirror := { m with
          mclk := level, inPeriod := false, mdo := some bit } }) ∧
      (level = m.inForce.clockMode.getLsbD 1 → m.inPeriod = true →
        m.inForce.clockMode.getLsbD 0 = true → ¬ endsRecord (m.bitCount + 1) →
        exec (.mclkEdge level mdi) s = .next { s with mirror := { m with
          mclk := level, inPeriod := false, bitCount := m.bitCount + 1 } })) ∧
    (m.transaction = .request → m.bitCount < 7 → level ≠ m.mclk →
      level ≠ m.inForce.clockMode.getLsbD 1 → m.inForce.clockMode.getLsbD 0 = false →
      exec (.mclkEdge level mdi) s = .next { s with mirror := { m with
        mclk := level, inPeriod := true, bitCount := m.bitCount + 1
        command := BitVec.ofNat 8 (2 * m.command.toNat + mdi.toNat) } })

/-- The bytes of a response: 00h through the request, C3h, the status code, the data of the command, then
00h; and the bytes of the slot, state and alert records, most significant first (R147, R149, R150, R151,
R152, R155). -/
def Obligations.ResponseBytes : Prop :=
  (∀ m : Mirror, ∀ first : Nat,
    first = (if m.command ∈ [0x21#8, 0x22#8, 0x41#8, 0x50#8] then 2 else 1) →
    (∀ p < first, m.outByte p = 0) ∧ m.outByte first = 0xC3 ∧
    m.outByte (first + 1) = (match m.status with
      | .ok => 0x10 | .refused => 0x11 | .unknown => 0x12
      | .accepted => 0x20 | .stale => 0x21 | .empty => 0x22) ∧
    (m.status ≠ .ok → ∀ p, first + 2 ≤ p → m.outByte p = 0) ∧
    (m.status = .ok →
      (m.command = 0x21 → (∀ k < 8, m.outByte (4 + k) = m.latch.byte k) ∧
        ∀ p, 12 ≤ p → m.outByte p = 0) ∧
      (m.command = 0x22 → ∀ k, m.outByte (4 + k) = m.latch.byte (k % 8)) ∧
      (m.command = 0x30 → (∀ k < 6, m.outByte (3 + k) = m.latch.byte k) ∧
        ∀ p, 9 ≤ p → m.outByte p = 0) ∧
      (m.command = 0x40 → (∀ k < 9, m.outByte (3 + k) = m.latch.byte k) ∧
        ∀ p, 12 ≤ p → m.outByte p = 0) ∧
      (m.command = 0x50 → ∀ p, 4 ≤ p → m.outByte p = 0))) ∧
  (∀ (i : Fin 64) (r : Slot) (b : Nat → Byte), b = (MirrorRecord.slot i r).byte →
    (b 0).toNat = i.val ∧ b 1 ++ b 2 ++ b 3 ++ b 4 = r.value ∧ b 5 ++ b 6 = r.sequence ∧
    (b 7).toNat = r.status.code.toNat + 4 * (faultKindCode r.faultKind).toNat +
      16 * r.limit.code.toNat + 64 * r.overwrite.toNat) ∧
  (∀ (r : StateRecord) (b : Nat → Byte), b = (MirrorRecord.state r).byte → r.alertCount ≤ 16 →
    (b 0).toNat = r.state.code.toNat + 4 * r.walker.code.toNat + 32 * r.stopPending.toNat +
      64 * r.deferred.toNat + 128 * r.commitPending.toNat ∧
    (b 1).toNat = r.active.code.toNat ∧ b 2 ++ b 3 = r.frame ∧ b 4 = r.overruns ∧
    (b 5).toNat = r.alertCount) ∧
  ∀ (r : AlertRecord) (b : Nat → Byte), b = (MirrorRecord.alert r).byte →
    b 0 = r.serial ∧ (b 1).toNat = r.kind.code.toNat ∧ (b 2).toNat = r.slot.val ∧
    b 3 ++ b 4 = r.sequence ∧ b 5 ++ b 6 ++ b 7 ++ b 8 = r.value

/-- A mirror row is its MCLK samples, in every clock mode. A request row, from a transaction just begun with
MCLK at its idle level: clocking the request's bits in up to the capture edge of the last one gives the state
the row gives (R145, R146; log entry 8). The next record of a READ_RUN, from between any two bit periods
before it: clocking the rest of the record out, whatever MDI holds, gives what READ_RUN_NEXT_RECORD gives, the
next record being taken at the trailing edge of the last period (R145, R147, R150; log entry 9). -/
def Obligations.MirrorRowsAreTheirSamples : Prop :=
  (∀ (c : Instr) (command argument : Byte) (s : State), Running s →
    requestOf c = some (command, argument) → s.mirror.transaction = .request → s.mirror.bitCount = 0 →
    s.mirror.command = 0 → s.mirror.inPeriod = false →
    s.mirror.mclk = idleLevel s.mirror.inForce.clockMode →
    execAll (clockIn s.mirror.inForce.clockMode (requestBitsOf command argument)) s = exec c s) ∧
  ∀ (mdi : List Bool) (s : State), Running s → s.mirror.transaction = .response →
    s.mirror.command = 0x22 → s.mirror.status = .ok → s.mirror.inPeriod = false →
    s.mirror.mclk = idleLevel s.mirror.inForce.clockMode →
    s.mirror.bitCount < 32 + 64 * s.mirror.records →
    s.mirror.bitCount + mdi.length = 32 + 64 * s.mirror.records →
    execAll (mdi.flatMap (periodSamples s.mirror.inForce.clockMode)) s = exec .readRunNextRecord s

/-! ### The whole device -/

/-- What the rows that are no host access leave alone: none of them writes a bank, a slot, lane or source
configuration, a timer setting, the threshold, the polarity or the window's registers, and none but one with a
frame end that host reads meet, as FRAME_END and the rows of a tick may be (log entries 34, 5), changes
the service stack and the word last read; and a mirror row changes nothing but the mirror port, the records of the alert queue and the pending set (R11, R13,
R50, R96, R124, R143, R163, R175). -/
def Obligations.EventsLeaveSettingsAlone : Prop :=
  ∀ (c : Instr) (s t : State), exec c s = .next t →
    (isMirrorRow c = true ∨ isInnerEvent c = true →
      t.bankA = s.bankA ∧ t.bankB = s.bankB ∧ t.limits = s.limits ∧
      (∀ n : Fin 4, (t.lanes[n]).cfg = (s.lanes[n]).cfg) ∧ t.events.sources = s.events.sources ∧
      t.events.threshold = s.events.threshold ∧
      t.events.irqActiveHigh = s.events.irqActiveHigh ∧ t.timer.divider = s.timer.divider ∧
      t.timer.mode = s.timer.mode ∧ t.timer.fallingEdge = s.timer.fallingEdge ∧
      t.timer.deferPolicy = s.timer.deferPolicy ∧ t.timer.period = s.timer.period ∧
      t.window = { s.window with lastRead := t.window.lastRead } ∧ t.inReset = s.inReset ∧
      ((c ≠ .frameEnd ∧ c ≠ .tick ∧ c ≠ .timerExpiry ∧ ∀ n, c ≠ .readyTimeout n ∧ c ≠ .pauseExpiry n) ∨
          (∀ m ∈ s.meetings, m.afterFrameEnd = [] ∧ m.afterSwap = []) →
        t.events.stack = s.events.stack ∧ t.window = s.window)) ∧
    (isMirrorRow c = true → t = { s with
      mirror := t.mirror
      alerts := { s.alerts with records := t.alerts.records }
      events := { s.events with edges := t.events.edges } }) ∧
    (isInnerEvent c = true → t.mirror = s.mirror)

/-- The state after reset is legal in every block. -/
def Obligations.ResetIsLegal : Prop :=
  ModesLegal State.reset ∧ BanksLegal State.reset ∧ LanesLegal State.reset ∧ FrameLegal State.reset ∧
  SlotsLegal State.reset ∧ AlertsLegal State.reset ∧ ServiceLegal State.reset ∧ MirrorLegal State.reset

/-- Every step keeps what R21 and R22 say of the controller states and flags, and what R116 and R117 say
of a timer that counts. That the walker rests between steps is the model's (log entry 3). -/
def Obligations.StepKeepsModesLegal : Prop :=
  ∀ s t : State, ModesLegal s → step s = .next t → ModesLegal t

/-- Every step keeps the active bank, and a staged bank with its commit pending, sound under validation
(R14, R16, R17). -/
def Obligations.StepKeepsBanksLegal : Prop :=
  ∀ s t : State, BanksLegal s → step s = .next t → BanksLegal t

/-- Every step keeps each lane's configuration in its ranges, its queue within four, DISABLED beside
enable off, no item waiting behind none in progress, and a held entry that has passed its runtime checks
(R35, R49, R51, R52, R54, R67). It carries the legal modes with it, of which that the walker rests between
steps is the model's (log entry 3). -/
def Obligations.StepKeepsLanesLegal : Prop :=
  ∀ s t : State, LanesLegal s → step s = .next t → LanesLegal t

/-- Every step keeps the identities of the frame report: due is issued, gate-skipped and rejected; issued
is the four outcomes and the items the lanes hold; every item carries the frame number; outside a frame
the lanes hold none; due stays within 64; and no wait or pause outlasts its ticks (R28, R39, R57, R63). It
carries the legal modes with it, of which that the walker rests between steps is the model's (log entry
3). -/
def Obligations.StepKeepsFrameLegal : Prop :=
  ∀ s t : State, FrameLegal s → step s = .next t → FrameLegal t

/-- Every step keeps an EMPTY slot cleared, a fault kind exactly beside status FAULT, and each hysteresis
within 7FFFFFFFh (R75, R76, R85, R95, R96). -/
def Obligations.StepKeepsSlotsLegal : Prop :=
  ∀ s t : State, SlotsLegal s → step s = .next t → SlotsLegal t

/-- Every step keeps the alert queue within sixteen records, their serials consecutive modulo 256 up to
the next serial (R102). -/
def Obligations.StepKeepsAlertsLegal : Prop :=
  ∀ s t : State, AlertsLegal s → step s = .next t → AlertsLegal t

/-- Every step keeps the levels of the service stack strictly increasing from bottom to top, the stack
within seven entries, and every configured level at 1 or above (R124, R128). -/
def Obligations.StepKeepsServiceLegal : Prop :=
  ∀ s t : State, ServiceLegal s → step s = .next t → ServiceLegal t

/-- Every step keeps MDO driven exactly in REQUEST and RESPONSE, a transaction only under MSEL, and a
request under way incomplete (R143, R146, R148). -/
def Obligations.StepKeepsMirrorLegal : Prop :=
  ∀ s t : State, MirrorLegal s → step s = .next t → MirrorLegal t
end

