-- ==== Sys2Proof/Laws/State.lean ====
section
/-! SUPPORT. One lemma a field for each named update of the state, so that no later proof unfolds a
record update. The last word of a lemma's name is the field read. -/

namespace Sys2Proof.Machine

variable (s : State)

/-! ### raise -/

@[simp] theorem raise_ctrl (n : Fin 16) : (raise n s).ctrl = s.ctrl := rfl
@[simp] theorem raise_bankA (n : Fin 16) : (raise n s).bankA = s.bankA := rfl
@[simp] theorem raise_bankB (n : Fin 16) : (raise n s).bankB = s.bankB := rfl
@[simp] theorem raise_lanes (n : Fin 16) : (raise n s).lanes = s.lanes := rfl
@[simp] theorem raise_samples (n : Fin 16) : (raise n s).samples = s.samples := rfl
@[simp] theorem raise_limits (n : Fin 16) : (raise n s).limits = s.limits := rfl
@[simp] theorem raise_alerts (n : Fin 16) : (raise n s).alerts = s.alerts := rfl
@[simp] theorem raise_timer (n : Fin 16) : (raise n s).timer = s.timer := rfl
@[simp] theorem raise_events (n : Fin 16) : (raise n s).events = s.events.raise n := rfl
@[simp] theorem raise_mirror (n : Fin 16) : (raise n s).mirror = s.mirror := rfl
@[simp] theorem raise_window (n : Fin 16) : (raise n s).window = s.window := rfl
@[simp] theorem raise_inReset (n : Fin 16) : (raise n s).inReset = s.inReset := rfl
@[simp] theorem raise_meetings (n : Fin 16) : (raise n s).meetings = s.meetings := rfl
@[simp] theorem raise_pending (n : Fin 16) : (raise n s).pending = s.pending := rfl

/-! ### setLane -/

@[simp] theorem setLane_ctrl (n : Fin 4) (l : Lane) : (setLane n l s).ctrl = s.ctrl := rfl
@[simp] theorem setLane_bankA (n : Fin 4) (l : Lane) : (setLane n l s).bankA = s.bankA := rfl
@[simp] theorem setLane_bankB (n : Fin 4) (l : Lane) : (setLane n l s).bankB = s.bankB := rfl
@[simp] theorem setLane_lanes (n : Fin 4) (l : Lane) : (setLane n l s).lanes = s.lanes.set n.val l n.isLt := rfl
@[simp] theorem setLane_samples (n : Fin 4) (l : Lane) : (setLane n l s).samples = s.samples := rfl
@[simp] theorem setLane_limits (n : Fin 4) (l : Lane) : (setLane n l s).limits = s.limits := rfl
@[simp] theorem setLane_alerts (n : Fin 4) (l : Lane) : (setLane n l s).alerts = s.alerts := rfl
@[simp] theorem setLane_timer (n : Fin 4) (l : Lane) : (setLane n l s).timer = s.timer := rfl
@[simp] theorem setLane_events (n : Fin 4) (l : Lane) : (setLane n l s).events = s.events := rfl
@[simp] theorem setLane_mirror (n : Fin 4) (l : Lane) : (setLane n l s).mirror = s.mirror := rfl
@[simp] theorem setLane_window (n : Fin 4) (l : Lane) : (setLane n l s).window = s.window := rfl
@[simp] theorem setLane_inReset (n : Fin 4) (l : Lane) : (setLane n l s).inReset = s.inReset := rfl
@[simp] theorem setLane_meetings (n : Fin 4) (l : Lane) : (setLane n l s).meetings = s.meetings := rfl
@[simp] theorem setLane_pending (n : Fin 4) (l : Lane) : (setLane n l s).pending = s.pending := rfl

/-! ### setSlot -/

@[simp] theorem setSlot_ctrl (i : Fin 64) (r : Slot) : (setSlot i r s).ctrl = s.ctrl := rfl
@[simp] theorem setSlot_bankA (i : Fin 64) (r : Slot) : (setSlot i r s).bankA = s.bankA := rfl
@[simp] theorem setSlot_bankB (i : Fin 64) (r : Slot) : (setSlot i r s).bankB = s.bankB := rfl
@[simp] theorem setSlot_lanes (i : Fin 64) (r : Slot) : (setSlot i r s).lanes = s.lanes := rfl
@[simp] theorem setSlot_samples (i : Fin 64) (r : Slot) : (setSlot i r s).samples = s.samples.setSlot i r := rfl
@[simp] theorem setSlot_limits (i : Fin 64) (r : Slot) : (setSlot i r s).limits = s.limits := rfl
@[simp] theorem setSlot_alerts (i : Fin 64) (r : Slot) : (setSlot i r s).alerts = s.alerts := rfl
@[simp] theorem setSlot_timer (i : Fin 64) (r : Slot) : (setSlot i r s).timer = s.timer := rfl
@[simp] theorem setSlot_events (i : Fin 64) (r : Slot) : (setSlot i r s).events = s.events := rfl
@[simp] theorem setSlot_mirror (i : Fin 64) (r : Slot) : (setSlot i r s).mirror = s.mirror := rfl
@[simp] theorem setSlot_window (i : Fin 64) (r : Slot) : (setSlot i r s).window = s.window := rfl
@[simp] theorem setSlot_inReset (i : Fin 64) (r : Slot) : (setSlot i r s).inReset = s.inReset := rfl
@[simp] theorem setSlot_meetings (i : Fin 64) (r : Slot) : (setSlot i r s).meetings = s.meetings := rfl
@[simp] theorem setSlot_pending (i : Fin 64) (r : Slot) : (setSlot i r s).pending = s.pending := rfl

/-! ### setMirror -/

@[simp] theorem setMirror_ctrl (m : Mirror) : (setMirror m s).ctrl = s.ctrl := rfl
@[simp] theorem setMirror_bankA (m : Mirror) : (setMirror m s).bankA = s.bankA := rfl
@[simp] theorem setMirror_bankB (m : Mirror) : (setMirror m s).bankB = s.bankB := rfl
@[simp] theorem setMirror_lanes (m : Mirror) : (setMirror m s).lanes = s.lanes := rfl
@[simp] theorem setMirror_samples (m : Mirror) : (setMirror m s).samples = s.samples := rfl
@[simp] theorem setMirror_limits (m : Mirror) : (setMirror m s).limits = s.limits := rfl
@[simp] theorem setMirror_alerts (m : Mirror) : (setMirror m s).alerts = s.alerts := rfl
@[simp] theorem setMirror_timer (m : Mirror) : (setMirror m s).timer = s.timer := rfl
@[simp] theorem setMirror_events (m : Mirror) : (setMirror m s).events = s.events := rfl
@[simp] theorem setMirror_mirror (m : Mirror) : (setMirror m s).mirror = m := rfl
@[simp] theorem setMirror_window (m : Mirror) : (setMirror m s).window = s.window := rfl
@[simp] theorem setMirror_inReset (m : Mirror) : (setMirror m s).inReset = s.inReset := rfl
@[simp] theorem setMirror_meetings (m : Mirror) : (setMirror m s).meetings = s.meetings := rfl
@[simp] theorem setMirror_pending (m : Mirror) : (setMirror m s).pending = s.pending := rfl

/-! ### setResult -/

@[simp] theorem setResult_ctrl (r : CmdResult) (i : Fin 64) : (setResult r i s).ctrl = s.ctrl := rfl
@[simp] theorem setResult_bankA (r : CmdResult) (i : Fin 64) : (setResult r i s).bankA = s.bankA := rfl
@[simp] theorem setResult_bankB (r : CmdResult) (i : Fin 64) : (setResult r i s).bankB = s.bankB := rfl
@[simp] theorem setResult_lanes (r : CmdResult) (i : Fin 64) : (setResult r i s).lanes = s.lanes := rfl
@[simp] theorem setResult_samples (r : CmdResult) (i : Fin 64) : (setResult r i s).samples = s.samples := rfl
@[simp] theorem setResult_limits (r : CmdResult) (i : Fin 64) : (setResult r i s).limits = s.limits := rfl
@[simp] theorem setResult_alerts (r : CmdResult) (i : Fin 64) : (setResult r i s).alerts = s.alerts := rfl
@[simp] theorem setResult_timer (r : CmdResult) (i : Fin 64) : (setResult r i s).timer = s.timer := rfl
@[simp] theorem setResult_events (r : CmdResult) (i : Fin 64) : (setResult r i s).events = s.events := rfl
@[simp] theorem setResult_mirror (r : CmdResult) (i : Fin 64) : (setResult r i s).mirror = s.mirror := rfl
@[simp] theorem setResult_window (r : CmdResult) (i : Fin 64) : (setResult r i s).window = { s.window with result := r, resultIndex := i } := rfl
@[simp] theorem setResult_inReset (r : CmdResult) (i : Fin 64) : (setResult r i s).inReset = s.inReset := rfl
@[simp] theorem setResult_meetings (r : CmdResult) (i : Fin 64) : (setResult r i s).meetings = s.meetings := rfl
@[simp] theorem setResult_pending (r : CmdResult) (i : Fin 64) : (setResult r i s).pending = s.pending := rfl

/-! ### accepted -/

@[simp] theorem accepted_ctrl : (accepted s).ctrl = s.ctrl := rfl
@[simp] theorem accepted_bankA : (accepted s).bankA = s.bankA := rfl
@[simp] theorem accepted_bankB : (accepted s).bankB = s.bankB := rfl
@[simp] theorem accepted_lanes : (accepted s).lanes = s.lanes := rfl
@[simp] theorem accepted_samples : (accepted s).samples = s.samples := rfl
@[simp] theorem accepted_limits : (accepted s).limits = s.limits := rfl
@[simp] theorem accepted_alerts : (accepted s).alerts = s.alerts := rfl
@[simp] theorem accepted_timer : (accepted s).timer = s.timer := rfl
@[simp] theorem accepted_events : (accepted s).events = s.events := rfl
@[simp] theorem accepted_mirror : (accepted s).mirror = s.mirror := rfl
@[simp] theorem accepted_window : (accepted s).window = { s.window with result := .accepted, resultIndex := 0 } := rfl
@[simp] theorem accepted_inReset : (accepted s).inReset = s.inReset := rfl
@[simp] theorem accepted_meetings : (accepted s).meetings = s.meetings := rfl
@[simp] theorem accepted_pending : (accepted s).pending = s.pending := rfl

/-! ### advanceTable -/

@[simp] theorem advanceTable_ctrl : (advanceTable s).ctrl = s.ctrl := rfl
@[simp] theorem advanceTable_bankA : (advanceTable s).bankA = s.bankA := rfl
@[simp] theorem advanceTable_bankB : (advanceTable s).bankB = s.bankB := rfl
@[simp] theorem advanceTable_lanes : (advanceTable s).lanes = s.lanes := rfl
@[simp] theorem advanceTable_samples : (advanceTable s).samples = s.samples := rfl
@[simp] theorem advanceTable_limits : (advanceTable s).limits = s.limits := rfl
@[simp] theorem advanceTable_alerts : (advanceTable s).alerts = s.alerts := rfl
@[simp] theorem advanceTable_timer : (advanceTable s).timer = s.timer := rfl
@[simp] theorem advanceTable_events : (advanceTable s).events = s.events := rfl
@[simp] theorem advanceTable_mirror : (advanceTable s).mirror = s.mirror := rfl
@[simp] theorem advanceTable_window : (advanceTable s).window = { s.window with tableAddr := s.window.tableAddr + 1 } := rfl
@[simp] theorem advanceTable_inReset : (advanceTable s).inReset = s.inReset := rfl
@[simp] theorem advanceTable_meetings : (advanceTable s).meetings = s.meetings := rfl
@[simp] theorem advanceTable_pending : (advanceTable s).pending = s.pending := rfl

/-! ### passOver -/

@[simp] theorem passOver_ctrl : (passOver s).ctrl = s.ctrl.advance := rfl
@[simp] theorem passOver_bankA : (passOver s).bankA = s.bankA := rfl
@[simp] theorem passOver_bankB : (passOver s).bankB = s.bankB := rfl
@[simp] theorem passOver_lanes : (passOver s).lanes = s.lanes := rfl
@[simp] theorem passOver_samples : (passOver s).samples = s.samples := rfl
@[simp] theorem passOver_limits : (passOver s).limits = s.limits := rfl
@[simp] theorem passOver_alerts : (passOver s).alerts = s.alerts := rfl
@[simp] theorem passOver_timer : (passOver s).timer = s.timer := rfl
@[simp] theorem passOver_events : (passOver s).events = s.events := rfl
@[simp] theorem passOver_mirror : (passOver s).mirror = s.mirror := rfl
@[simp] theorem passOver_window : (passOver s).window = s.window := rfl
@[simp] theorem passOver_inReset : (passOver s).inReset = s.inReset := rfl
@[simp] theorem passOver_meetings : (passOver s).meetings = s.meetings := rfl
@[simp] theorem passOver_pending : (passOver s).pending = s.pending := rfl

/-! ### answer -/

@[simp] theorem answer_ctrl (st : MirrorStatus) : (answer st s).ctrl = s.ctrl := rfl
@[simp] theorem answer_bankA (st : MirrorStatus) : (answer st s).bankA = s.bankA := rfl
@[simp] theorem answer_bankB (st : MirrorStatus) : (answer st s).bankB = s.bankB := rfl
@[simp] theorem answer_lanes (st : MirrorStatus) : (answer st s).lanes = s.lanes := rfl
@[simp] theorem answer_samples (st : MirrorStatus) : (answer st s).samples = s.samples := rfl
@[simp] theorem answer_limits (st : MirrorStatus) : (answer st s).limits = s.limits := rfl
@[simp] theorem answer_alerts (st : MirrorStatus) : (answer st s).alerts = s.alerts := rfl
@[simp] theorem answer_timer (st : MirrorStatus) : (answer st s).timer = s.timer := rfl
@[simp] theorem answer_events (st : MirrorStatus) : (answer st s).events = s.events := rfl
@[simp] theorem answer_mirror (st : MirrorStatus) : (answer st s).mirror = { s.mirror with status := st } := rfl
@[simp] theorem answer_window (st : MirrorStatus) : (answer st s).window = s.window := rfl
@[simp] theorem answer_inReset (st : MirrorStatus) : (answer st s).inReset = s.inReset := rfl
@[simp] theorem answer_meetings (st : MirrorStatus) : (answer st s).meetings = s.meetings := rfl
@[simp] theorem answer_pending (st : MirrorStatus) : (answer st s).pending = s.pending := rfl

/-! ### mirrorSnapshot -/

@[simp] theorem mirrorSnapshot_ctrl (i : Fin 64) : (mirrorSnapshot i s).ctrl = s.ctrl := rfl
@[simp] theorem mirrorSnapshot_bankA (i : Fin 64) : (mirrorSnapshot i s).bankA = s.bankA := rfl
@[simp] theorem mirrorSnapshot_bankB (i : Fin 64) : (mirrorSnapshot i s).bankB = s.bankB := rfl
@[simp] theorem mirrorSnapshot_lanes (i : Fin 64) : (mirrorSnapshot i s).lanes = s.lanes := rfl
@[simp] theorem mirrorSnapshot_samples (i : Fin 64) : (mirrorSnapshot i s).samples = s.samples := rfl
@[simp] theorem mirrorSnapshot_limits (i : Fin 64) : (mirrorSnapshot i s).limits = s.limits := rfl
@[simp] theorem mirrorSnapshot_alerts (i : Fin 64) : (mirrorSnapshot i s).alerts = s.alerts := rfl
@[simp] theorem mirrorSnapshot_timer (i : Fin 64) : (mirrorSnapshot i s).timer = s.timer := rfl
@[simp] theorem mirrorSnapshot_events (i : Fin 64) : (mirrorSnapshot i s).events = s.events := rfl
@[simp] theorem mirrorSnapshot_mirror (i : Fin 64) : (mirrorSnapshot i s).mirror = { s.mirror with latch := .slot i s.samples.slots[i] } := rfl
@[simp] theorem mirrorSnapshot_window (i : Fin 64) : (mirrorSnapshot i s).window = s.window := rfl
@[simp] theorem mirrorSnapshot_inReset (i : Fin 64) : (mirrorSnapshot i s).inReset = s.inReset := rfl
@[simp] theorem mirrorSnapshot_meetings (i : Fin 64) : (mirrorSnapshot i s).meetings = s.meetings := rfl
@[simp] theorem mirrorSnapshot_pending (i : Fin 64) : (mirrorSnapshot i s).pending = s.pending := rfl

/-! ### takeTick -/

@[simp] theorem takeTick_ctrl : (takeTick s).ctrl = s.ctrl := rfl
@[simp] theorem takeTick_bankA : (takeTick s).bankA = s.bankA := rfl
@[simp] theorem takeTick_bankB : (takeTick s).bankB = s.bankB := rfl
@[simp] theorem takeTick_lanes : (takeTick s).lanes = mapLanes Lane.countTick s.lanes := rfl
@[simp] theorem takeTick_samples : (takeTick s).samples = s.samples := rfl
@[simp] theorem takeTick_limits : (takeTick s).limits = s.limits := rfl
@[simp] theorem takeTick_alerts : (takeTick s).alerts = s.alerts := rfl
@[simp] theorem takeTick_timer : (takeTick s).timer = s.timer.nextTick.countTick := rfl
@[simp] theorem takeTick_events : (takeTick s).events = s.events := rfl
@[simp] theorem takeTick_mirror : (takeTick s).mirror = s.mirror := rfl
@[simp] theorem takeTick_window : (takeTick s).window = s.window := rfl
@[simp] theorem takeTick_inReset : (takeTick s).inReset = s.inReset := rfl
@[simp] theorem takeTick_meetings : (takeTick s).meetings = s.meetings := rfl
@[simp] theorem takeTick_pending : (takeTick s).pending = s.pending := rfl

/-! ### actAtExpiry -/

@[simp] theorem actAtExpiry_ctrl : (actAtExpiry s).ctrl = s.ctrl := rfl
@[simp] theorem actAtExpiry_bankA : (actAtExpiry s).bankA = s.bankA := rfl
@[simp] theorem actAtExpiry_bankB : (actAtExpiry s).bankB = s.bankB := rfl
@[simp] theorem actAtExpiry_lanes : (actAtExpiry s).lanes = s.lanes := rfl
@[simp] theorem actAtExpiry_samples : (actAtExpiry s).samples = s.samples := rfl
@[simp] theorem actAtExpiry_limits : (actAtExpiry s).limits = s.limits := rfl
@[simp] theorem actAtExpiry_alerts : (actAtExpiry s).alerts = s.alerts := rfl
@[simp] theorem actAtExpiry_timer : (actAtExpiry s).timer = s.timer.afterExpiry := rfl
@[simp] theorem actAtExpiry_events : (actAtExpiry s).events = s.events := rfl
@[simp] theorem actAtExpiry_mirror : (actAtExpiry s).mirror = s.mirror := rfl
@[simp] theorem actAtExpiry_window : (actAtExpiry s).window = s.window := rfl
@[simp] theorem actAtExpiry_inReset : (actAtExpiry s).inReset = s.inReset := rfl
@[simp] theorem actAtExpiry_meetings : (actAtExpiry s).meetings = s.meetings := rfl
@[simp] theorem actAtExpiry_pending : (actAtExpiry s).pending = s.pending := rfl

/-! ### keepEdges -/

@[simp] theorem keepEdges_ctrl (w : Word) : (keepEdges w s).ctrl = s.ctrl := rfl
@[simp] theorem keepEdges_bankA (w : Word) : (keepEdges w s).bankA = s.bankA := rfl
@[simp] theorem keepEdges_bankB (w : Word) : (keepEdges w s).bankB = s.bankB := rfl
@[simp] theorem keepEdges_lanes (w : Word) : (keepEdges w s).lanes = s.lanes := rfl
@[simp] theorem keepEdges_samples (w : Word) : (keepEdges w s).samples = s.samples := rfl
@[simp] theorem keepEdges_limits (w : Word) : (keepEdges w s).limits = s.limits := rfl
@[simp] theorem keepEdges_alerts (w : Word) : (keepEdges w s).alerts = s.alerts := rfl
@[simp] theorem keepEdges_timer (w : Word) : (keepEdges w s).timer = s.timer := rfl
@[simp] theorem keepEdges_edges (w : Word) : (keepEdges w s).events.edges = s.events.edges &&& w := rfl
@[simp] theorem keepEdges_sources (w : Word) : (keepEdges w s).events.sources = s.events.sources := rfl
@[simp] theorem keepEdges_mirror (w : Word) : (keepEdges w s).mirror = s.mirror := rfl
@[simp] theorem keepEdges_window (w : Word) : (keepEdges w s).window = s.window := rfl
@[simp] theorem keepEdges_inReset (w : Word) : (keepEdges w s).inReset = s.inReset := rfl
@[simp] theorem keepEdges_meetings (w : Word) : (keepEdges w s).meetings = s.meetings := rfl
@[simp] theorem keepEdges_pending (w : Word) : (keepEdges w s).pending = s.pending := rfl

/-! ### softReset -/

@[simp] theorem softReset_ctrl : (softReset s).ctrl = s.ctrl.softReset := rfl
@[simp] theorem softReset_bankA : (softReset s).bankA = s.bankA := rfl
@[simp] theorem softReset_bankB : (softReset s).bankB = s.bankB := rfl
@[simp] theorem softReset_lanes : (softReset s).lanes = mapLanes Lane.softReset s.lanes := rfl
@[simp] theorem softReset_samples : (softReset s).samples = .afterReset := rfl
@[simp] theorem softReset_limits : (softReset s).limits = s.limits := rfl
@[simp] theorem softReset_alerts : (softReset s).alerts = .afterReset := rfl
@[simp] theorem softReset_timer : (softReset s).timer = s.timer.softReset := rfl
@[simp] theorem softReset_events : (softReset s).events = s.events.softReset := rfl
@[simp] theorem softReset_mirror : (softReset s).mirror = s.mirror.softReset := rfl
@[simp] theorem softReset_window : (softReset s).window = s.window.softReset := rfl
@[simp] theorem softReset_inReset : (softReset s).inReset = s.inReset := rfl
@[simp] theorem softReset_meetings : (softReset s).meetings = s.meetings := rfl
@[simp] theorem softReset_pending : (softReset s).pending = s.pending := rfl

/-! ### ctrlTake -/

@[simp] theorem ctrlTake_bankA (it : Item) (o : ItemOutcome) : (ctrlTake it o s).bankA = s.bankA := rfl
@[simp] theorem ctrlTake_bankB (it : Item) (o : ItemOutcome) : (ctrlTake it o s).bankB = s.bankB := rfl
@[simp] theorem ctrlTake_lanes (it : Item) (o : ItemOutcome) : (ctrlTake it o s).lanes = s.lanes := rfl
@[simp] theorem ctrlTake_samples (it : Item) (o : ItemOutcome) : (ctrlTake it o s).samples = s.samples := rfl
@[simp] theorem ctrlTake_limits (it : Item) (o : ItemOutcome) : (ctrlTake it o s).limits = s.limits := rfl
@[simp] theorem ctrlTake_alerts (it : Item) (o : ItemOutcome) : (ctrlTake it o s).alerts = s.alerts := rfl
@[simp] theorem ctrlTake_timer (it : Item) (o : ItemOutcome) : (ctrlTake it o s).timer = s.timer := rfl
@[simp] theorem ctrlTake_events (it : Item) (o : ItemOutcome) : (ctrlTake it o s).events = s.events := rfl
@[simp] theorem ctrlTake_mirror (it : Item) (o : ItemOutcome) : (ctrlTake it o s).mirror = s.mirror := rfl
@[simp] theorem ctrlTake_window (it : Item) (o : ItemOutcome) : (ctrlTake it o s).window = s.window := rfl
@[simp] theorem ctrlTake_inReset (it : Item) (o : ItemOutcome) : (ctrlTake it o s).inReset = s.inReset := rfl
@[simp] theorem ctrlTake_meetings (it : Item) (o : ItemOutcome) : (ctrlTake it o s).meetings = s.meetings := rfl
@[simp] theorem ctrlTake_pending (it : Item) (o : ItemOutcome) : (ctrlTake it o s).pending = s.pending := rfl

/-! ### raiseLaneFault -/

@[simp] theorem raiseLaneFault_ctrl (n : Fin 4) (o : ItemOutcome) : (raiseLaneFault n o s).ctrl = s.ctrl := by cases o <;> rfl
@[simp] theorem raiseLaneFault_bankA (n : Fin 4) (o : ItemOutcome) : (raiseLaneFault n o s).bankA = s.bankA := by cases o <;> rfl
@[simp] theorem raiseLaneFault_bankB (n : Fin 4) (o : ItemOutcome) : (raiseLaneFault n o s).bankB = s.bankB := by cases o <;> rfl
@[simp] theorem raiseLaneFault_lanes (n : Fin 4) (o : ItemOutcome) : (raiseLaneFault n o s).lanes = s.lanes := by cases o <;> rfl
@[simp] theorem raiseLaneFault_samples (n : Fin 4) (o : ItemOutcome) : (raiseLaneFault n o s).samples = s.samples := by cases o <;> rfl
@[simp] theorem raiseLaneFault_limits (n : Fin 4) (o : ItemOutcome) : (raiseLaneFault n o s).limits = s.limits := by cases o <;> rfl
@[simp] theorem raiseLaneFault_alerts (n : Fin 4) (o : ItemOutcome) : (raiseLaneFault n o s).alerts = s.alerts := by cases o <;> rfl
@[simp] theorem raiseLaneFault_timer (n : Fin 4) (o : ItemOutcome) : (raiseLaneFault n o s).timer = s.timer := by cases o <;> rfl
@[simp] theorem raiseLaneFault_mirror (n : Fin 4) (o : ItemOutcome) : (raiseLaneFault n o s).mirror = s.mirror := by cases o <;> rfl
@[simp] theorem raiseLaneFault_window (n : Fin 4) (o : ItemOutcome) : (raiseLaneFault n o s).window = s.window := by cases o <;> rfl
@[simp] theorem raiseLaneFault_inReset (n : Fin 4) (o : ItemOutcome) : (raiseLaneFault n o s).inReset = s.inReset := by cases o <;> rfl
@[simp] theorem raiseLaneFault_meetings (n : Fin 4) (o : ItemOutcome) : (raiseLaneFault n o s).meetings = s.meetings := by cases o <;> rfl
@[simp] theorem raiseLaneFault_pending (n : Fin 4) (o : ItemOutcome) : (raiseLaneFault n o s).pending = s.pending := by cases o <;> rfl

/-! ### postAlert -/

@[simp] theorem postAlert_ctrl (k : AlertKind) (i : Fin 64) (q : Word) (v : Value) : (postAlert k i q v s).ctrl = s.ctrl := by simp only [postAlert]; split <;> rfl
@[simp] theorem postAlert_bankA (k : AlertKind) (i : Fin 64) (q : Word) (v : Value) : (postAlert k i q v s).bankA = s.bankA := by simp only [postAlert]; split <;> rfl
@[simp] theorem postAlert_bankB (k : AlertKind) (i : Fin 64) (q : Word) (v : Value) : (postAlert k i q v s).bankB = s.bankB := by simp only [postAlert]; split <;> rfl
@[simp] theorem postAlert_lanes (k : AlertKind) (i : Fin 64) (q : Word) (v : Value) : (postAlert k i q v s).lanes = s.lanes := by simp only [postAlert]; split <;> rfl
@[simp] theorem postAlert_samples (k : AlertKind) (i : Fin 64) (q : Word) (v : Value) : (postAlert k i q v s).samples = s.samples := by simp only [postAlert]; split <;> rfl
@[simp] theorem postAlert_limits (k : AlertKind) (i : Fin 64) (q : Word) (v : Value) : (postAlert k i q v s).limits = s.limits := by simp only [postAlert]; split <;> rfl
@[simp] theorem postAlert_timer (k : AlertKind) (i : Fin 64) (q : Word) (v : Value) : (postAlert k i q v s).timer = s.timer := by simp only [postAlert]; split <;> rfl
@[simp] theorem postAlert_mirror (k : AlertKind) (i : Fin 64) (q : Word) (v : Value) : (postAlert k i q v s).mirror = s.mirror := by simp only [postAlert]; split <;> rfl
@[simp] theorem postAlert_window (k : AlertKind) (i : Fin 64) (q : Word) (v : Value) : (postAlert k i q v s).window = s.window := by simp only [postAlert]; split <;> rfl
@[simp] theorem postAlert_inReset (k : AlertKind) (i : Fin 64) (q : Word) (v : Value) : (postAlert k i q v s).inReset = s.inReset := by simp only [postAlert]; split <;> rfl
@[simp] theorem postAlert_meetings (k : AlertKind) (i : Fin 64) (q : Word) (v : Value) : (postAlert k i q v s).meetings = s.meetings := by simp only [postAlert]; split <;> rfl
@[simp] theorem postAlert_pending (k : AlertKind) (i : Fin 64) (q : Word) (v : Value) : (postAlert k i q v s).pending = s.pending := by simp only [postAlert]; split <;> rfl

/-! ### postIfEnabled -/

@[simp] theorem postIfEnabled_ctrl (k : AlertKind) (i : Fin 64) (q : Word) (v : Value) : (postIfEnabled k i q v s).ctrl = s.ctrl := by unfold postIfEnabled; split <;> simp
@[simp] theorem postIfEnabled_bankA (k : AlertKind) (i : Fin 64) (q : Word) (v : Value) : (postIfEnabled k i q v s).bankA = s.bankA := by unfold postIfEnabled; split <;> simp
@[simp] theorem postIfEnabled_bankB (k : AlertKind) (i : Fin 64) (q : Word) (v : Value) : (postIfEnabled k i q v s).bankB = s.bankB := by unfold postIfEnabled; split <;> simp
@[simp] theorem postIfEnabled_lanes (k : AlertKind) (i : Fin 64) (q : Word) (v : Value) : (postIfEnabled k i q v s).lanes = s.lanes := by unfold postIfEnabled; split <;> simp
@[simp] theorem postIfEnabled_samples (k : AlertKind) (i : Fin 64) (q : Word) (v : Value) : (postIfEnabled k i q v s).samples = s.samples := by unfold postIfEnabled; split <;> simp
@[simp] theorem postIfEnabled_limits (k : AlertKind) (i : Fin 64) (q : Word) (v : Value) : (postIfEnabled k i q v s).limits = s.limits := by unfold postIfEnabled; split <;> simp
@[simp] theorem postIfEnabled_timer (k : AlertKind) (i : Fin 64) (q : Word) (v : Value) : (postIfEnabled k i q v s).timer = s.timer := by unfold postIfEnabled; split <;> simp
@[simp] theorem postIfEnabled_mirror (k : AlertKind) (i : Fin 64) (q : Word) (v : Value) : (postIfEnabled k i q v s).mirror = s.mirror := by unfold postIfEnabled; split <;> simp
@[simp] theorem postIfEnabled_window (k : AlertKind) (i : Fin 64) (q : Word) (v : Value) : (postIfEnabled k i q v s).window = s.window := by unfold postIfEnabled; split <;> simp
@[simp] theorem postIfEnabled_inReset (k : AlertKind) (i : Fin 64) (q : Word) (v : Value) : (postIfEnabled k i q v s).inReset = s.inReset := by unfold postIfEnabled; split <;> simp
@[simp] theorem postIfEnabled_meetings (k : AlertKind) (i : Fin 64) (q : Word) (v : Value) : (postIfEnabled k i q v s).meetings = s.meetings := by unfold postIfEnabled; split <;> simp
@[simp] theorem postIfEnabled_pending (k : AlertKind) (i : Fin 64) (q : Word) (v : Value) : (postIfEnabled k i q v s).pending = s.pending := by unfold postIfEnabled; split <;> simp

/-! ### setStagedBank -/

@[simp] theorem setStagedBank_ctrl (b : Bank) : (setStagedBank b s).ctrl = s.ctrl := by unfold setStagedBank; split <;> rfl
@[simp] theorem setStagedBank_lanes (b : Bank) : (setStagedBank b s).lanes = s.lanes := by unfold setStagedBank; split <;> rfl
@[simp] theorem setStagedBank_samples (b : Bank) : (setStagedBank b s).samples = s.samples := by unfold setStagedBank; split <;> rfl
@[simp] theorem setStagedBank_limits (b : Bank) : (setStagedBank b s).limits = s.limits := by unfold setStagedBank; split <;> rfl
@[simp] theorem setStagedBank_alerts (b : Bank) : (setStagedBank b s).alerts = s.alerts := by unfold setStagedBank; split <;> rfl
@[simp] theorem setStagedBank_timer (b : Bank) : (setStagedBank b s).timer = s.timer := by unfold setStagedBank; split <;> rfl
@[simp] theorem setStagedBank_events (b : Bank) : (setStagedBank b s).events = s.events := by unfold setStagedBank; split <;> rfl
@[simp] theorem setStagedBank_mirror (b : Bank) : (setStagedBank b s).mirror = s.mirror := by unfold setStagedBank; split <;> rfl
@[simp] theorem setStagedBank_window (b : Bank) : (setStagedBank b s).window = s.window := by unfold setStagedBank; split <;> rfl
@[simp] theorem setStagedBank_inReset (b : Bank) : (setStagedBank b s).inReset = s.inReset := by unfold setStagedBank; split <;> rfl
@[simp] theorem setStagedBank_meetings (b : Bank) : (setStagedBank b s).meetings = s.meetings := by unfold setStagedBank; split <;> rfl
@[simp] theorem setStagedBank_pending (b : Bank) : (setStagedBank b s).pending = s.pending := by unfold setStagedBank; split <;> rfl

/-! ### accessError -/

@[simp] theorem accessError_ctrl (e : AccessError) (a : BitVec 5) (w : Bool) : (accessError e a w s).ctrl = s.ctrl := rfl
@[simp] theorem accessError_bankA (e : AccessError) (a : BitVec 5) (w : Bool) : (accessError e a w s).bankA = s.bankA := rfl
@[simp] theorem accessError_bankB (e : AccessError) (a : BitVec 5) (w : Bool) : (accessError e a w s).bankB = s.bankB := rfl
@[simp] theorem accessError_lanes (e : AccessError) (a : BitVec 5) (w : Bool) : (accessError e a w s).lanes = s.lanes := rfl
@[simp] theorem accessError_samples (e : AccessError) (a : BitVec 5) (w : Bool) : (accessError e a w s).samples = s.samples := rfl
@[simp] theorem accessError_limits (e : AccessError) (a : BitVec 5) (w : Bool) : (accessError e a w s).limits = s.limits := rfl
@[simp] theorem accessError_alerts (e : AccessError) (a : BitVec 5) (w : Bool) : (accessError e a w s).alerts = s.alerts := rfl
@[simp] theorem accessError_timer (e : AccessError) (a : BitVec 5) (w : Bool) : (accessError e a w s).timer = s.timer := rfl
@[simp] theorem accessError_mirror (e : AccessError) (a : BitVec 5) (w : Bool) : (accessError e a w s).mirror = s.mirror := rfl
@[simp] theorem accessError_inReset (e : AccessError) (a : BitVec 5) (w : Bool) : (accessError e a w s).inReset = s.inReset := rfl
@[simp] theorem accessError_meetings (e : AccessError) (a : BitVec 5) (w : Bool) : (accessError e a w s).meetings = s.meetings := rfl
@[simp] theorem accessError_pending (e : AccessError) (a : BitVec 5) (w : Bool) : (accessError e a w s).pending = s.pending := rfl

/-! ### refuseWrite -/

@[simp] theorem refuseWrite_ctrl (e : AccessError) (a : BitVec 5) : (refuseWrite e a s).ctrl = s.ctrl := rfl
@[simp] theorem refuseWrite_bankA (e : AccessError) (a : BitVec 5) : (refuseWrite e a s).bankA = s.bankA := rfl
@[simp] theorem refuseWrite_bankB (e : AccessError) (a : BitVec 5) : (refuseWrite e a s).bankB = s.bankB := rfl
@[simp] theorem refuseWrite_lanes (e : AccessError) (a : BitVec 5) : (refuseWrite e a s).lanes = s.lanes := rfl
@[simp] theorem refuseWrite_samples (e : AccessError) (a : BitVec 5) : (refuseWrite e a s).samples = s.samples := rfl
@[simp] theorem refuseWrite_limits (e : AccessError) (a : BitVec 5) : (refuseWrite e a s).limits = s.limits := rfl
@[simp] theorem refuseWrite_alerts (e : AccessError) (a : BitVec 5) : (refuseWrite e a s).alerts = s.alerts := rfl
@[simp] theorem refuseWrite_timer (e : AccessError) (a : BitVec 5) : (refuseWrite e a s).timer = s.timer := rfl
@[simp] theorem refuseWrite_mirror (e : AccessError) (a : BitVec 5) : (refuseWrite e a s).mirror = s.mirror := rfl
@[simp] theorem refuseWrite_inReset (e : AccessError) (a : BitVec 5) : (refuseWrite e a s).inReset = s.inReset := rfl
@[simp] theorem refuseWrite_meetings (e : AccessError) (a : BitVec 5) : (refuseWrite e a s).meetings = s.meetings := rfl
@[simp] theorem refuseWrite_pending (e : AccessError) (a : BitVec 5) : (refuseWrite e a s).pending = s.pending := rfl

/-! ### swapBanks -/

@[simp] theorem swapBanks_ctrl : (swapBanks s).ctrl = { s.ctrl with active := s.ctrl.active.other, commitPending := false } := rfl
@[simp] theorem swapBanks_bankA : (swapBanks s).bankA = s.bankA := rfl
@[simp] theorem swapBanks_bankB : (swapBanks s).bankB = s.bankB := rfl
@[simp] theorem swapBanks_lanes : (swapBanks s).lanes = s.lanes := rfl
@[simp] theorem swapBanks_samples : (swapBanks s).samples = s.samples := rfl
@[simp] theorem swapBanks_limits : (swapBanks s).limits = s.limits := rfl
@[simp] theorem swapBanks_alerts : (swapBanks s).alerts = s.alerts := rfl
@[simp] theorem swapBanks_timer : (swapBanks s).timer = s.timer := rfl
@[simp] theorem swapBanks_events : (swapBanks s).events = s.events.raise srcBankSwap := rfl
@[simp] theorem swapBanks_mirror : (swapBanks s).mirror = s.mirror := rfl
@[simp] theorem swapBanks_window : (swapBanks s).window = s.window := rfl
@[simp] theorem swapBanks_inReset : (swapBanks s).inReset = s.inReset := rfl
@[simp] theorem swapBanks_meetings : (swapBanks s).meetings = s.meetings := rfl
@[simp] theorem swapBanks_pending : (swapBanks s).pending = s.pending := rfl

/-! ### swapIfPending -/

@[simp] theorem swapIfPending_bankA : (swapIfPending s).bankA = s.bankA := by unfold swapIfPending; split <;> rfl
@[simp] theorem swapIfPending_bankB : (swapIfPending s).bankB = s.bankB := by unfold swapIfPending; split <;> rfl
@[simp] theorem swapIfPending_lanes : (swapIfPending s).lanes = s.lanes := by unfold swapIfPending; split <;> rfl
@[simp] theorem swapIfPending_samples : (swapIfPending s).samples = s.samples := by unfold swapIfPending; split <;> rfl
@[simp] theorem swapIfPending_limits : (swapIfPending s).limits = s.limits := by unfold swapIfPending; split <;> rfl
@[simp] theorem swapIfPending_alerts : (swapIfPending s).alerts = s.alerts := by unfold swapIfPending; split <;> rfl
@[simp] theorem swapIfPending_timer : (swapIfPending s).timer = s.timer := by unfold swapIfPending; split <;> rfl
@[simp] theorem swapIfPending_mirror : (swapIfPending s).mirror = s.mirror := by unfold swapIfPending; split <;> rfl
@[simp] theorem swapIfPending_window : (swapIfPending s).window = s.window := by unfold swapIfPending; split <;> rfl
@[simp] theorem swapIfPending_inReset : (swapIfPending s).inReset = s.inReset := by unfold swapIfPending; split <;> rfl
@[simp] theorem swapIfPending_meetings : (swapIfPending s).meetings = s.meetings := by unfold swapIfPending; split <;> rfl
@[simp] theorem swapIfPending_pending : (swapIfPending s).pending = s.pending := by unfold swapIfPending; split <;> rfl

/-! ### dropTrigger -/

@[simp] theorem dropTrigger_bankA : (dropTrigger s).bankA = s.bankA := rfl
@[simp] theorem dropTrigger_bankB : (dropTrigger s).bankB = s.bankB := rfl
@[simp] theorem dropTrigger_lanes : (dropTrigger s).lanes = s.lanes := rfl
@[simp] theorem dropTrigger_samples : (dropTrigger s).samples = s.samples := rfl
@[simp] theorem dropTrigger_limits : (dropTrigger s).limits = s.limits := rfl
@[simp] theorem dropTrigger_alerts : (dropTrigger s).alerts = s.alerts := rfl
@[simp] theorem dropTrigger_timer : (dropTrigger s).timer = s.timer := rfl
@[simp] theorem dropTrigger_mirror : (dropTrigger s).mirror = s.mirror := rfl
@[simp] theorem dropTrigger_window : (dropTrigger s).window = s.window := rfl
@[simp] theorem dropTrigger_inReset : (dropTrigger s).inReset = s.inReset := rfl
@[simp] theorem dropTrigger_meetings : (dropTrigger s).meetings = s.meetings := rfl
@[simp] theorem dropTrigger_pending : (dropTrigger s).pending = s.pending := rfl

/-! ### countSkipped -/

@[simp] theorem countSkipped_bankA : (countSkipped s).bankA = s.bankA := rfl
@[simp] theorem countSkipped_bankB : (countSkipped s).bankB = s.bankB := rfl
@[simp] theorem countSkipped_lanes : (countSkipped s).lanes = s.lanes := rfl
@[simp] theorem countSkipped_samples : (countSkipped s).samples = s.samples := rfl
@[simp] theorem countSkipped_limits : (countSkipped s).limits = s.limits := rfl
@[simp] theorem countSkipped_alerts : (countSkipped s).alerts = s.alerts := rfl
@[simp] theorem countSkipped_timer : (countSkipped s).timer = s.timer := rfl
@[simp] theorem countSkipped_events : (countSkipped s).events = s.events := rfl
@[simp] theorem countSkipped_mirror : (countSkipped s).mirror = s.mirror := rfl
@[simp] theorem countSkipped_window : (countSkipped s).window = s.window := rfl
@[simp] theorem countSkipped_inReset : (countSkipped s).inReset = s.inReset := rfl
@[simp] theorem countSkipped_meetings : (countSkipped s).meetings = s.meetings := rfl
@[simp] theorem countSkipped_pending : (countSkipped s).pending = s.pending := rfl

/-! ### takeMeeting -/

@[simp] theorem takeMeeting_ctrl : (takeMeeting s).ctrl = s.ctrl := rfl
@[simp] theorem takeMeeting_bankA : (takeMeeting s).bankA = s.bankA := rfl
@[simp] theorem takeMeeting_bankB : (takeMeeting s).bankB = s.bankB := rfl
@[simp] theorem takeMeeting_lanes : (takeMeeting s).lanes = s.lanes := rfl
@[simp] theorem takeMeeting_samples : (takeMeeting s).samples = s.samples := rfl
@[simp] theorem takeMeeting_limits : (takeMeeting s).limits = s.limits := rfl
@[simp] theorem takeMeeting_alerts : (takeMeeting s).alerts = s.alerts := rfl
@[simp] theorem takeMeeting_timer : (takeMeeting s).timer = s.timer := rfl
@[simp] theorem takeMeeting_events : (takeMeeting s).events = s.events := rfl
@[simp] theorem takeMeeting_mirror : (takeMeeting s).mirror = s.mirror := rfl
@[simp] theorem takeMeeting_window : (takeMeeting s).window = s.window := rfl
@[simp] theorem takeMeeting_inReset : (takeMeeting s).inReset = s.inReset := rfl
@[simp] theorem takeMeeting_meetings : (takeMeeting s).meetings = s.meetings.tail := rfl
@[simp] theorem takeMeeting_pending : (takeMeeting s).pending = s.pending := rfl

/-! ### setPhase -/

@[simp] theorem setPhase_ctrl (n : Fin 4) (p : LanePhase) : (setPhase n p s).ctrl = s.ctrl := rfl
@[simp] theorem setPhase_bankA (n : Fin 4) (p : LanePhase) : (setPhase n p s).bankA = s.bankA := rfl
@[simp] theorem setPhase_bankB (n : Fin 4) (p : LanePhase) : (setPhase n p s).bankB = s.bankB := rfl
@[simp] theorem setPhase_lanes (n : Fin 4) (p : LanePhase) : (setPhase n p s).lanes = s.lanes.set n.val { s.lanes[n] with phase := p } n.isLt := rfl
@[simp] theorem setPhase_samples (n : Fin 4) (p : LanePhase) : (setPhase n p s).samples = s.samples := rfl
@[simp] theorem setPhase_limits (n : Fin 4) (p : LanePhase) : (setPhase n p s).limits = s.limits := rfl
@[simp] theorem setPhase_alerts (n : Fin 4) (p : LanePhase) : (setPhase n p s).alerts = s.alerts := rfl
@[simp] theorem setPhase_timer (n : Fin 4) (p : LanePhase) : (setPhase n p s).timer = s.timer := rfl
@[simp] theorem setPhase_events (n : Fin 4) (p : LanePhase) : (setPhase n p s).events = s.events := rfl
@[simp] theorem setPhase_mirror (n : Fin 4) (p : LanePhase) : (setPhase n p s).mirror = s.mirror := rfl
@[simp] theorem setPhase_window (n : Fin 4) (p : LanePhase) : (setPhase n p s).window = s.window := rfl
@[simp] theorem setPhase_inReset (n : Fin 4) (p : LanePhase) : (setPhase n p s).inReset = s.inReset := rfl
@[simp] theorem setPhase_meetings (n : Fin 4) (p : LanePhase) : (setPhase n p s).meetings = s.meetings := rfl
@[simp] theorem setPhase_pending (n : Fin 4) (p : LanePhase) : (setPhase n p s).pending = s.pending := rfl

/-! ### claim -/

@[simp] theorem claim_ctrl : (claim s).ctrl = s.ctrl := by unfold claim; split <;> rfl
@[simp] theorem claim_bankA : (claim s).bankA = s.bankA := by unfold claim; split <;> rfl
@[simp] theorem claim_bankB : (claim s).bankB = s.bankB := by unfold claim; split <;> rfl
@[simp] theorem claim_lanes : (claim s).lanes = s.lanes := by unfold claim; split <;> rfl
@[simp] theorem claim_samples : (claim s).samples = s.samples := by unfold claim; split <;> rfl
@[simp] theorem claim_limits : (claim s).limits = s.limits := by unfold claim; split <;> rfl
@[simp] theorem claim_alerts : (claim s).alerts = s.alerts := by unfold claim; split <;> rfl
@[simp] theorem claim_timer : (claim s).timer = s.timer := by unfold claim; split <;> rfl
@[simp] theorem claim_mirror : (claim s).mirror = s.mirror := by unfold claim; split <;> rfl
@[simp] theorem claim_window : (claim s).window = s.window := by unfold claim; split <;> rfl
@[simp] theorem claim_inReset : (claim s).inReset = s.inReset := by unfold claim; split <;> rfl
@[simp] theorem claim_meetings : (claim s).meetings = s.meetings := by unfold claim; split <;> rfl
@[simp] theorem claim_pending : (claim s).pending = s.pending := by unfold claim; split <;> rfl

/-! ### Blocks inside the state -/

@[simp] theorem setSlot_slots_self (t : SampleTable) (i : Fin 64) (r : Slot) :
    (t.setSlot i r).slots[i] = r := by simp [SampleTable.setSlot]

theorem setSlot_slots_ne (t : SampleTable) (i j : Fin 64) (r : Slot) (h : i ≠ j) :
    (t.setSlot i r).slots[j] = t.slots[j] := by
  simp [SampleTable.setSlot, Fin.val_inj, h]

@[simp] theorem setLane_lanes_self (n : Fin 4) (l : Lane) : (setLane n l s).lanes[n] = l := by simp

@[simp] theorem setPhase_lanes_self (n : Fin 4) (p : LanePhase) :
    (setPhase n p s).lanes[n] = { s.lanes[n] with phase := p } := setLane_lanes_self ..

theorem setLane_lanes_ne (n m : Fin 4) (l : Lane) (h : n ≠ m) :
    (setLane n l s).lanes[m] = s.lanes[m] := by
  simp [Fin.val_inj, h]

@[simp] theorem mapLanes_get (f : Lane → Lane) (v : Vector Lane 4) (n : Nat) (h : n < 4) :
    (mapLanes f v)[n] = f v[n] := by simp [mapLanes]

theorem mapLanes_eq_map (f : Lane → Lane) (v : Vector Lane 4) : mapLanes f v = v.map f := by
  apply Vector.ext; intro i hi; simp

end Sys2Proof.Machine
end

