-- ==== Sys2Proof/Laws/Frames.lean ====
section
/-! SUPPORT. What completions, lanes and the walk leave as it was: the blocks they never reach, and the
part of the scan controller that only frame starts, frame ends and commands change. -/

namespace Sys2Proof.Machine

/-- The blocks that no completion, no lane and no walk reaches. -/
structure Still where
  bankA   : Bank
  bankB   : Bank
  limits  : Vector SlotConfig 64
  timer   : Timebase
  mirror  : Mirror
  window  : Window
  inReset : Bool
  meetings : List Meeting
  pending : List Instr

/-- Those blocks of a state. -/
def State.still (s : State) : Still :=
  ⟨s.bankA, s.bankB, s.limits, s.timer, s.mirror, s.window, s.inReset, s.meetings, s.pending⟩

/-- The part of the scan controller that no completion and no walk changes. -/
structure CtrlFixed where
  state         : CtrlState
  frame         : Word
  stopPending   : Bool
  deferred      : Bool
  abortMark     : Bool
  commitPending : Bool
  active        : BankName
  last          : FrameReport
  overruns      : BitVec 8
  number        : Word
  outcome       : FrameOutcome

/-- That part of a controller. -/
def Ctrl.fixed (c : Ctrl) : CtrlFixed :=
  ⟨c.state, c.frame, c.stopPending, c.deferred, c.abortMark, c.commitPending, c.active, c.last,
    c.overruns, c.current.frame, c.current.outcome⟩

variable (s : State)

/-! ### The controller's own updates -/

@[simp] theorem advance_fixed (c : Ctrl) : c.advance.fixed = c.fixed := by
  unfold Ctrl.advance; split <;> rfl

@[simp] theorem advance_window (c : Ctrl) : c.advance.window = c.window := by
  unfold Ctrl.advance; split <;> rfl

@[simp] theorem advance_current (c : Ctrl) : c.advance.current = c.current := by
  unfold Ctrl.advance; split <;> rfl

@[simp] theorem judgeGate_fixed (e : Entry) (o : ItemOutcome) (c : Ctrl) :
    (judgeGate e o c).fixed = c.fixed := by
  unfold judgeGate
  split
  · exact advance_fixed c
  · exact advance_fixed _

@[simp] theorem judgeGate_current (e : Entry) (o : ItemOutcome) (c : Ctrl) :
    (judgeGate e o c).current = c.current := by
  unfold judgeGate; split <;> simp

@[simp] theorem recordRejection_fixed (c : Ctrl) (w : RejectReason) :
    (c.recordRejection w).fixed = c.fixed := by
  unfold Ctrl.recordRejection; split <;> rfl

@[simp] theorem recordRejection_current (c : Ctrl) (w : RejectReason) :
    (c.recordRejection w).current = c.current := by
  unfold Ctrl.recordRejection; split <;> rfl

theorem countOutcome_frame (r : FrameReport) (o : ItemOutcome) :
    (r.countOutcome o).frame = r.frame ∧ (r.countOutcome o).outcome = r.outcome := by
  cases o <;> exact ⟨rfl, rfl⟩

/-- Counting an outcome changes nothing of the fixed part. -/
theorem counted_fixed (c : Ctrl) (o : ItemOutcome) :
    ({ c with current := c.current.countOutcome o } : Ctrl).fixed = c.fixed := by
  cases o <;> rfl

@[simp] theorem ctrlTake_fixed (it : Item) (o : ItemOutcome) :
    (ctrlTake it o s).ctrl.fixed = s.ctrl.fixed := by
  simp only [ctrlTake]
  split
  · rw [judgeGate_fixed, counted_fixed]
  · exact counted_fixed s.ctrl o

/-- A completion counts its outcome in the current report, whatever else it does (R39). -/
@[simp] theorem ctrlTake_current (it : Item) (o : ItemOutcome) :
    (ctrlTake it o s).ctrl.current = s.ctrl.current.countOutcome o := by
  simp only [ctrlTake]
  split <;> simp

/-! ### Completions -/

theorem storeSample_still (i : Fin 64) (v : Value) (q : Word) :
    (storeSample i v q s).still = s.still ∧ (storeSample i v q s).ctrl = s.ctrl ∧
      (storeSample i v q s).lanes = s.lanes := by
  simp only [storeSample, State.still]
  split <;> simp

theorem faultSample_still (i : Fin 64) (k : FaultKind) :
    (faultSample i k s).still = s.still ∧ (faultSample i k s).ctrl = s.ctrl ∧
      (faultSample i k s).lanes = s.lanes := by
  simp [faultSample, State.still]

theorem sampleTake_still (it : Item) (o : ItemOutcome) :
    (sampleTake it o s).still = s.still ∧ (sampleTake it o s).ctrl = s.ctrl ∧
      (sampleTake it o s).lanes = s.lanes := by
  cases o with
  | completed r => exact storeSample_still ..
  | fault k => exact faultSample_still ..
  | skipped => exact ⟨rfl, rfl, rfl⟩
  | aborted => exact ⟨rfl, rfl, rfl⟩

/-- The state that the scan controller finds when a completion reaches it. -/
def beforeCtrl (n : Fin 4) (it : Item) (o : ItemOutcome) (s : State) : State :=
  raiseLaneFault n o (if it.kind = .exchange then sampleTake it o s else s)

theorem complete_eq (n : Fin 4) (it : Item) (o : ItemOutcome) :
    complete n it o s = ctrlTake it o (beforeCtrl n it o s) := rfl

theorem beforeCtrl_still (n : Fin 4) (it : Item) (o : ItemOutcome) :
    (beforeCtrl n it o s).still = s.still ∧ (beforeCtrl n it o s).ctrl = s.ctrl ∧
      (beforeCtrl n it o s).lanes = s.lanes := by
  have h := sampleTake_still s it o
  unfold beforeCtrl
  split
  · simpa [State.still] using h
  · simp [State.still]

@[simp] theorem complete_still (n : Fin 4) (it : Item) (o : ItemOutcome) :
    (complete n it o s).still = s.still := by
  rw [complete_eq, ← (beforeCtrl_still s n it o).1]
  simp [State.still]

@[simp] theorem complete_lanes (n : Fin 4) (it : Item) (o : ItemOutcome) :
    (complete n it o s).lanes = s.lanes := by
  rw [complete_eq, ctrlTake_lanes, (beforeCtrl_still s n it o).2.2]

@[simp] theorem complete_fixed (n : Fin 4) (it : Item) (o : ItemOutcome) :
    (complete n it o s).ctrl.fixed = s.ctrl.fixed := by
  rw [complete_eq, ctrlTake_fixed, (beforeCtrl_still s n it o).2.1]

@[simp] theorem complete_current (n : Fin 4) (it : Item) (o : ItemOutcome) :
    (complete n it o s).ctrl.current = s.ctrl.current.countOutcome o := by
  rw [complete_eq, ctrlTake_current, (beforeCtrl_still s n it o).2.1]

/-- A completion other than DONE and FAULT reaches the scan controller alone (R67, R70, R83). -/
theorem complete_quiet (n : Fin 4) (it : Item) (o : ItemOutcome) (h : o = .skipped ∨ o = .aborted) :
    complete n it o s = ctrlTake it o s := by
  rcases h with rfl | rfl <;> simp [complete, raiseLaneFault, sampleTake]

theorem completeAll_cons (n : Fin 4) (o : ItemOutcome) (it : Item) (l : List Item) :
    completeAll n o (it :: l) s = completeAll n o l (complete n it o s) := rfl

@[simp] theorem completeAll_nil (n : Fin 4) (o : ItemOutcome) : completeAll n o [] s = s := rfl

@[simp] theorem completeAll_still (n : Fin 4) (o : ItemOutcome) (l : List Item) :
    (completeAll n o l s).still = s.still := by
  induction l generalizing s with
  | nil => rfl
  | cons it l ih => rw [completeAll_cons, ih, complete_still]

@[simp] theorem completeAll_lanes (n : Fin 4) (o : ItemOutcome) (l : List Item) :
    (completeAll n o l s).lanes = s.lanes := by
  induction l generalizing s with
  | nil => rfl
  | cons it l ih => rw [completeAll_cons, ih, complete_lanes]

@[simp] theorem completeAll_fixed (n : Fin 4) (o : ItemOutcome) (l : List Item) :
    (completeAll n o l s).ctrl.fixed = s.ctrl.fixed := by
  induction l generalizing s with
  | nil => rfl
  | cons it l ih => rw [completeAll_cons, ih, complete_fixed]

/-- SKIPPED and ABORTED completions change no slot, post no alert and raise nothing (R67, R70, R83). -/
theorem completeAll_quiet (n : Fin 4) (o : ItemOutcome) (l : List Item)
    (h : o = .skipped ∨ o = .aborted) :
    (completeAll n o l s).samples = s.samples ∧ (completeAll n o l s).alerts = s.alerts ∧
      (completeAll n o l s).events = s.events := by
  induction l generalizing s with
  | nil => exact ⟨rfl, rfl, rfl⟩
  | cons it l ih => rw [completeAll_cons, complete_quiet s n it o h]; simpa using ih (ctrlTake it o s)

/-! ### Lanes -/

@[simp] theorem settleLane_still (n : Fin 4) : (settleLane n s).still = s.still := by
  simp only [settleLane]
  split
  · exact completeAll_still ..
  · rfl

@[simp] theorem settleLane_fixed (n : Fin 4) : (settleLane n s).ctrl.fixed = s.ctrl.fixed := by
  simp only [settleLane]
  split
  · exact completeAll_fixed ..
  · rfl

/-- Settling a lane changes no slot, posts no alert and raises nothing. -/
theorem settleLane_quiet (n : Fin 4) :
    (settleLane n s).samples = s.samples ∧ (settleLane n s).alerts = s.alerts ∧
      (settleLane n s).events = s.events := by
  simp only [settleLane]
  split
  · exact completeAll_quiet (setLane n { s.lanes[n] with queue := [] } s) n .skipped _ (.inl rfl)
  · simp

/-- A lane that is not HALTED settles by taking its head item where it is IDLE (R54). -/
theorem settleLane_take (n : Fin 4) (h : (s.lanes[n]).phase ≠ .halted) :
    settleLane n s = setLane n (s.lanes[n]).takeHead s := by
  simp only [settleLane]

@[simp] theorem enqueue_still (n : Fin 4) (it : Item) : (enqueue n it s).still = s.still := by
  simp only [enqueue, settleLane_still]; rfl

@[simp] theorem enqueue_fixed (n : Fin 4) (it : Item) : (enqueue n it s).ctrl.fixed = s.ctrl.fixed := by
  simp only [enqueue, settleLane_fixed, setLane_ctrl]

theorem enqueue_quiet (n : Fin 4) (it : Item) :
    (enqueue n it s).samples = s.samples ∧ (enqueue n it s).alerts = s.alerts ∧
      (enqueue n it s).events = s.events := settleLane_quiet _ n

@[simp] theorem abortLane_still (n : Fin 4) : (abortLane s n).still = s.still := by
  simp only [abortLane]
  split
  · rfl
  · rfl
  · exact completeAll_still ..

@[simp] theorem abortLane_fixed (n : Fin 4) : (abortLane s n).ctrl.fixed = s.ctrl.fixed := by
  simp only [abortLane]
  split
  · rfl
  · rfl
  · exact completeAll_fixed ..

/-! ### The walk -/

@[simp] theorem issueEntry_still (k : ItemKind) (e : Entry) : (issueEntry k e s).still = s.still := by
  simp only [issueEntry, enqueue_still]; rfl

@[simp] theorem issueEntry_fixed (k : ItemKind) (e : Entry) :
    (issueEntry k e s).ctrl.fixed = s.ctrl.fixed := by
  simp only [issueEntry, enqueue_fixed]
  split
  · rfl
  · exact advance_fixed _

@[simp] theorem rejectEntry_still (k : ItemKind) (e : Entry) (w : RejectReason) :
    (rejectEntry k e w s).still = s.still := rfl

@[simp] theorem rejectEntry_fixed (k : ItemKind) (e : Entry) (w : RejectReason) :
    (rejectEntry k e w s).ctrl.fixed = s.ctrl.fixed := by
  have h := recordRejection_fixed s.ctrl w
  simp only [rejectEntry, raise_ctrl, advance_fixed]
  split <;> simp_all [Ctrl.fixed]

@[simp] theorem takeDueEntry_still (k : ItemKind) (e : Entry) : (takeDueEntry k e s).still = s.still := by
  simp only [takeDueEntry]
  split
  · simp
  · split
    · simp
    · rfl

@[simp] theorem takeDueEntry_fixed (k : ItemKind) (e : Entry) :
    (takeDueEntry k e s).ctrl.fixed = s.ctrl.fixed := by
  simp only [takeDueEntry]
  split
  · simp
  · split
    · simp
    · rfl

@[simp] theorem walkEntry_still : (walkEntry s).still = s.still := by
  simp only [walkEntry]
  split
  · split
    · split
      · rfl
      · simp
    · rfl
  · split <;> rfl

@[simp] theorem walkEntry_fixed : (walkEntry s).ctrl.fixed = s.ctrl.fixed := by
  simp only [walkEntry]
  split
  · split
    · split
      · rw [passOver_ctrl, advance_fixed]; rfl
      · simp
    · simp
  · split
    · rfl
    · simp

@[simp] theorem walk_still (n : Nat) : (walk n s).still = s.still := by
  induction n generalizing s with
  | zero => rfl
  | succ n ih => rw [walk]; split <;> simp [ih]

@[simp] theorem walk_fixed (n : Nat) : (walk n s).ctrl.fixed = s.ctrl.fixed := by
  induction n generalizing s with
  | zero => rfl
  | succ n ih => rw [walk]; split <;> simp [ih]

@[simp] theorem runWalk_still : (runWalk s).still = s.still := walk_still s 64

@[simp] theorem runWalk_fixed : (runWalk s).ctrl.fixed = s.ctrl.fixed := walk_fixed s 64

/-- A walker that is not ISSUING does not walk. -/
theorem runWalk_of_not_issuing (h : s.ctrl.walker ≠ .issuing) : runWalk s = s := by
  simp [runWalk, walk, h]

@[simp] theorem settleItem_still (n : Fin 4) (it : Item) (o : ItemOutcome) :
    (settleItem n it o s).still = s.still := by
  simp only [settleItem, settleLane_still]
  exact complete_still s n it o

@[simp] theorem settleItem_fixed (n : Fin 4) (it : Item) (o : ItemOutcome) :
    (settleItem n it o s).ctrl.fixed = s.ctrl.fixed := by
  simp [settleItem]

@[simp] theorem finishItem_still (n : Fin 4) (it : Item) (o : ItemOutcome) :
    (finishItem n it o s).still = s.still := by
  simp [finishItem]

@[simp] theorem finishItem_fixed (n : Fin 4) (it : Item) (o : ItemOutcome) :
    (finishItem n it o s).ctrl.fixed = s.ctrl.fixed := by
  simp [finishItem]

end Sys2Proof.Machine
end

