-- ==== Sys2Proof/Laws/Walk.lean ====
section
/-! SUPPORT. What one entry of the walk can do, that a walk ends, and how a property that every entry
keeps carries over to the whole walk. -/

namespace Sys2Proof.Machine

theorem wentOn_eq_advance (c : Ctrl) : wentOn c = c.advance := by
  unfold wentOn Ctrl.advance
  by_cases h : c.position.val < 63
  · have h' : c.position.val + 1 < 64 := by omega
    simp [h, h']
  · have h' : ¬ c.position.val + 1 < 64 := by omega
    simp [h, h']

/-- Where a controller stands that has taken the entry at index `p`: it issues at the next index, or holds
for the gate at `p`, or does neither. -/
def TakenFrom (p : Nat) (c : Ctrl) : Prop :=
  (c.walker = .issuing → c.position.val = p + 1) ∧ (c.walker = .heldGate → c.position.val = p)

theorem advance_taken (c : Ctrl) : TakenFrom c.position.val c.advance := by
  unfold TakenFrom Ctrl.advance; split <;> simp

theorem ctrlTake_taken (p : Nat) (it : Item) (o : ItemOutcome) (s : State) (h : TakenFrom p s.ctrl) :
    TakenFrom p (ctrlTake it o s).ctrl := by
  simp only [ctrlTake]
  split
  · rename_i hg
    simp only [awaitsGate, Bool.and_eq_true, decide_eq_true_eq] at hg
    have hp := h.2 hg.1.2
    unfold judgeGate
    split
    · have h2 := advance_taken { s.ctrl with current := s.ctrl.current.countOutcome o }
      rwa [show ({ s.ctrl with current := s.ctrl.current.countOutcome o } : Ctrl).position.val = p
        from hp] at h2
    · have h2 := advance_taken { s.ctrl with
        current := s.ctrl.current.countOutcome o
        window := skipWindow s.ctrl.position (activeBank s)[it.index].skip.toNat }
      rw [← hp]; exact h2
  · exact h

theorem completeAll_taken (p : Nat) (n : Fin 4) (o : ItemOutcome) (ho : o = .skipped ∨ o = .aborted)
    (l : List Item) (s : State) (h : TakenFrom p s.ctrl) : TakenFrom p (completeAll n o l s).ctrl := by
  induction l generalizing s with
  | nil => exact h
  | cons it l ih =>
    rw [completeAll_cons, complete_quiet _ _ _ _ ho]
    exact ih _ (ctrlTake_taken p it o s h)

theorem settleLane_taken (p : Nat) (n : Fin 4) (s : State) (h : TakenFrom p s.ctrl) :
    TakenFrom p (settleLane n s).ctrl := by
  simp only [settleLane]
  split
  · exact completeAll_taken p n _ (.inl rfl) _ _ h
  · exact h

theorem enqueue_taken (p : Nat) (n : Fin 4) (it : Item) (s : State) (h : TakenFrom p s.ctrl) :
    TakenFrom p (enqueue n it s).ctrl := by
  simp only [enqueue]; exact settleLane_taken p n _ h

theorem rejectEntry_taken (k : ItemKind) (e : Entry) (w : RejectReason) (s : State) :
    TakenFrom s.ctrl.position.val (rejectEntry k e w s).ctrl := by
  have key : ∀ c : Ctrl, c.position = s.ctrl.position → TakenFrom s.ctrl.position.val c.advance := by
    intro c hc; rw [← hc]; exact advance_taken c
  simp only [rejectEntry, raise_ctrl]
  apply key
  split <;> (simp only [Ctrl.recordRejection]; split <;> rfl)

theorem issueEntry_taken (k : ItemKind) (e : Entry) (s : State) :
    TakenFrom s.ctrl.position.val (issueEntry k e s).ctrl := by
  simp only [issueEntry]
  apply enqueue_taken
  split
  · simp [TakenFrom]
  · exact advance_taken _

/-- An entry that the walker takes leaves it past that entry, holding for it, or done (R30 to R36). -/
theorem walkEntry_taken (s : State) : TakenFrom s.ctrl.position.val (walkEntry s).ctrl := by
  simp only [walkEntry]
  split
  · split
    · split
      · exact advance_taken (countSkipped s).ctrl
      · simp only [takeDueEntry]
        split
        · exact rejectEntry_taken ..
        · split
          · exact issueEntry_taken ..
          · simp [TakenFrom]
    · exact advance_taken s.ctrl
  · split
    · simp [TakenFrom]
    · exact advance_taken s.ctrl

/-- The fuel of a walk does not matter where it is enough for the entries that are left. -/
theorem walk_fuel (n m : Nat) (s : State)
    (hn : s.ctrl.walker = .issuing → 64 - s.ctrl.position.val ≤ n)
    (hm : s.ctrl.walker = .issuing → 64 - s.ctrl.position.val ≤ m) : walk n s = walk m s := by
  have still : ∀ k, s.ctrl.walker ≠ .issuing → walk k s = s := by
    intro k h; cases k <;> simp [walk, h]
  induction n generalizing s m with
  | zero =>
    have h : s.ctrl.walker ≠ .issuing := fun h => by
      have := hn h; have := s.ctrl.position.isLt; omega
    rw [still _ h, still _ h]
  | succ n ih =>
    by_cases h : s.ctrl.walker = .issuing
    · cases m with
      | zero => have := hm h; have := s.ctrl.position.isLt; omega
      | succ m =>
        simp only [walk, h, if_true]
        have ht := walkEntry_taken s
        apply ih
        · intro h2; have := ht.1 h2; have := hn h; omega
        · intro h2; have := ht.1 h2; have := hm h; omega
        · intro k h2; cases k <;> simp [walk, h2]
    · rw [still _ h, still _ h]

/-- A walker in ISSUING takes the entry at its position, and the walk goes on from there. -/
theorem runWalk_step (s : State) (h : s.ctrl.walker = .issuing) : runWalk s = runWalk (walkEntry s) := by
  have h1 : runWalk s = walk 63 (walkEntry s) := by simp [runWalk, walk, h]
  have ht := walkEntry_taken s
  rw [h1]
  apply walk_fuel
  · intro h3; have := ht.1 h3; omega
  · intro h3; have := ht.1 h3; omega

theorem walk_rest (n : Nat) (s : State) (hn : s.ctrl.walker = .issuing → 64 - s.ctrl.position.val ≤ n) :
    (walk n s).ctrl.walker ≠ .issuing := by
  induction n generalizing s with
  | zero => intro h; have := hn h; have := s.ctrl.position.isLt; omega
  | succ n ih =>
    by_cases h : s.ctrl.walker = .issuing
    · simp only [walk, h, if_true]
      apply ih
      intro h2; have := (walkEntry_taken s).1 h2; have := hn h; omega
    · simp [walk, h]

/-- A walk ends with the walker holding or done (log entry 3). -/
theorem runWalk_rest (s : State) : (runWalk s).ctrl.walker ≠ .issuing :=
  walk_rest 64 s (by intro _; omega)

/-- What every entry keeps, a walk keeps. -/
theorem runWalk_keeps (P : State → Prop)
    (h : ∀ t, t.ctrl.walker = .issuing → P t → P (walkEntry t)) (s : State) (hs : P s) :
    P (runWalk s) := by
  have key : ∀ n s, P s → P (walk n s) := by
    intro n
    induction n with
    | zero => intro s hs; exact hs
    | succ n ih =>
      intro s hs
      rw [walk]
      split
      · rename_i hw; exact ih _ (h s hw hs)
      · exact hs
  exact key 64 s hs

/-- The three things a due entry outside the window comes to (R32, R34). -/
theorem takeDueEntry_cases (k : ItemKind) (e : Entry) (s : State) :
    (∃ w, rejectReason (s.lanes[e.lane]).cfg k e = some w ∧ takeDueEntry k e s = rejectEntry k e w s) ∨
    (rejectReason (s.lanes[e.lane]).cfg k e = none ∧ (s.lanes[e.lane]).queue.length < 4 ∧
      takeDueEntry k e s = issueEntry k e s) ∨
    (rejectReason (s.lanes[e.lane]).cfg k e = none ∧ 4 ≤ (s.lanes[e.lane]).queue.length ∧
      takeDueEntry k e s = { s with ctrl := { s.ctrl with walker := .heldQueue } }) := by
  simp only [takeDueEntry]
  cases hr : rejectReason (s.lanes[e.lane]).cfg k e with
  | some w => exact .inl ⟨w, rfl, rfl⟩
  | none =>
    by_cases hq : (s.lanes[e.lane]).queue.length < 4
    · exact .inr (.inl ⟨rfl, hq, if_pos hq⟩)
    · exact .inr (.inr ⟨rfl, by omega, if_neg hq⟩)

end Sys2Proof.Machine
end

