-- ==== Sys2Proof/Laws/Ops.lean ====
section
/-! SUPPORT. For each shared operation, one lemma that says everything it can do. -/

namespace Sys2Proof.Machine

/-! ### Bits of words -/

/-- The word with bit `n` set, bit by bit. -/
theorem setBit_getLsbD (w : Word) (n m : Fin 16) :
    (setBit w n).getLsbD m.val = (decide (m = n) || w.getLsbD m.val) := by
  simp only [setBit, BitVec.getLsbD_or, BitVec.getLsbD_twoPow]
  have hm := m.isLt; have hn := n.isLt
  by_cases h : m = n
  · subst h; simp
  · have : n.val ≠ m.val := fun h2 => h (Fin.ext h2.symm)
    simp [h, this]

/-- The word with bit `n` clear, bit by bit. -/
theorem clearBit_getLsbD (w : Word) (n m : Fin 16) :
    (clearBit w n).getLsbD m.val = (!decide (m = n) && w.getLsbD m.val) := by
  simp only [clearBit, BitVec.getLsbD_and, BitVec.getLsbD_not, BitVec.getLsbD_twoPow]
  have hm := m.isLt; have hn := n.isLt
  by_cases h : m = n
  · subst h; simp
  · have : n.val ≠ m.val := fun h2 => h (Fin.ext h2.symm)
    simp [h, this]

theorem lowMask_getLsbD (w j : Nat) (hw : w ≤ 32) : (lowMask w).getLsbD j = decide (j < w) := by
  simp only [lowMask, BitVec.getLsbD_ofNat, Nat.testBit_two_pow_sub_one]
  by_cases h : j < w <;> simp [h]; omega

/-- A field of a word as a number. -/
theorem field_toNat (w : Word) (lo n : Nat) : (field w lo n).toNat = w.toNat / 2 ^ lo % 2 ^ n := by
  simp [field, BitVec.extractLsb', Nat.shiftRight_eq_div_pow]

/-- The record and the word that a table address names. -/
theorem tableAddress_parts (a : Word) (h : a.toNat < 512) :
    (recordOf a).val = a.toNat / 8 ∧ (wordOf a).val = a.toNat % 8 := by
  have h1 := field_toNat a 3 6
  have h2 := field_toNat a 0 3
  simp only [recordOf, wordOf, BitVec.val_toFin]
  omega

/-! ### Banks -/

/-- A bank reads the word last written where it was written. -/
@[simp] theorem bank_word_setWord (b : Bank) (a w : Word) : (b.setWord a w).word a = w := by
  simp [Bank.word, Bank.setWord, Entry.word, Entry.setWord]

/-- A write of one word of a bank leaves every other word as it was. -/
theorem bank_word_setWord_ne (b : Bank) (a c w : Word)
    (h : recordOf c ≠ recordOf a ∨ wordOf c ≠ wordOf a) : (b.setWord a w).word c = b.word c := by
  simp only [Bank.word, Bank.setWord, Entry.word, Entry.setWord, Fin.getElem_fin, Vector.getElem_set]
  by_cases hr : (recordOf a).val = (recordOf c).val
  · have hw : (wordOf a).val ≠ (wordOf c).val := fun hw =>
      h.elim (fun h => h (Fin.ext hr.symm)) (fun h => h (Fin.ext hw.symm))
    simp [hr, hw]
  · simp [hr]

@[simp] theorem setStagedBank_staged (b : Bank) (s : State) : stagedBank (setStagedBank b s) = b := by
  cases h : s.ctrl.active <;> simp [setStagedBank, stagedBank, h]

@[simp] theorem setStagedBank_active (b : Bank) (s : State) :
    activeBank (setStagedBank b s) = activeBank s := by
  cases h : s.ctrl.active <;> simp [setStagedBank, activeBank, h]

/-- A swap that is pending happens, and otherwise nothing does (R16). -/
theorem swapIfPending_cases (s : State) :
    (s.ctrl.commitPending = true ∧ swapIfPending s = swapBanks s) ∨
    (s.ctrl.commitPending = false ∧ swapIfPending s = s) := by
  cases h : s.ctrl.commitPending <;> simp [swapIfPending, h]

/-- The swap of a boundary as one record (R16). -/
theorem swapIfPending_eq (s : State) : swapIfPending s = swapMade s := by
  cases h : s.ctrl.commitPending <;> cases h2 : s.ctrl.active <;>
    simp [swapIfPending, swapMade, swapBanks, raise, selectorAfterSwap, eventsAfterSwap, h, h2,
      BankName.other] <;> (rcases s with ⟨⟨⟩⟩; simp_all)

/-! ### Frames and triggers -/

/-- Steps 1 to 3 of a frame end as one record (R40). -/
theorem closeReport_eq (s : State) :
    raise srcFrameEnd { s with ctrl := s.ctrl.closeReport } = reportClosed s := rfl

/-- Entry to STOPPED as one record (R41). -/
theorem enterStopped_eq (s : State) : enterStopped s = stoppedFrom s := by
  cases h : s.ctrl.commitPending <;> cases h2 : s.ctrl.active <;>
    simp [enterStopped, enterStoppedMeeting, stoppedFrom, swapIfPending, swapBanks, raise, selectorAfterSwap,
      eventsAfterSwap, Timebase.halt, h, h2, BankName.other]

/-- STOP or ABORT taken in WAITING enters STOPPED, after the expiring tick where that comes first; the trigger
of that tick finds STOPPED (R41, R118). -/
theorem stopWaiting_eq (tickFirst : Bool) (s : State) :
    stopWaiting tickFirst s =
      stoppedFrom (if tickFirst && s.timer.expiresNext then actAtExpiry (takeTick s) else s) := by
  unfold stopWaiting
  split
  · rw [enterStopped_eq]; rfl
  · exact enterStopped_eq s

/-- A frame start is its five steps and then the walk (R27). -/
theorem frameStart_eq (s : State) : frameStart s = runWalk (frameBegun s) := by
  cases h : s.ctrl.commitPending <;> cases h2 : s.ctrl.active <;>
    simp [frameStart, frameStartMeeting, frameBegun, swapIfPending, swapBanks, raise, selectorAfterSwap,
      eventsAfterSwap, h, h2, BankName.other, Ctrl.begin, FrameReport.starting]

/-- What a trigger comes to (R24). -/
theorem takeTrigger_cases (s : State) :
    takeTrigger s = s ∨
    (s.ctrl.state = .waiting ∧ takeTrigger s = frameStart s) ∨
    (s.ctrl.state = .active ∧ s.ctrl.stopPending = false ∧
      (takeTrigger s = { s with ctrl := { s.ctrl with deferred := true } } ∨
        takeTrigger s = dropTrigger s)) := by
  unfold takeTrigger
  cases h : s.ctrl.state with
  | stopped => exact .inl rfl
  | waiting => exact .inr (.inl ⟨rfl, rfl⟩)
  | active =>
    cases hp : s.ctrl.stopPending with
    | true => exact .inl (by simp)
    | false =>
      refine .inr (.inr ⟨rfl, rfl, ?_⟩)
      cases hd : s.timer.deferPolicy && !s.ctrl.deferred <;> simp

/-- A trigger leaves the timer as it is. -/
@[simp] theorem takeTrigger_timer (s : State) : (takeTrigger s).timer = s.timer := by
  rcases takeTrigger_cases s with h | ⟨-, h⟩ | ⟨-, -, h | h⟩ <;> rw [h]
  · rw [frameStart_eq]; exact congrArg Still.timer (runWalk_still (frameBegun s))
  · rfl

/-- The window that a failed gate opens (R37). -/
theorem skipWindow_fail (g : Fin 64) (e : Entry) : FailWindow g e (skipWindow g e.skip.toNat) := by
  intro i
  have hi := i.isLt
  unfold skipWindow
  split
  · simp only [Option.some.injEq, exists_eq_left', Fin.le_def]; omega
  · simp only [reduceCtorEq, false_and, exists_false, false_iff]; omega

/-- The lanes are empty exactly when none holds an item (R38). -/
theorem lanesEmpty_iff (s : State) : lanesEmpty s = true ↔ ∀ n : Fin 4, (s.lanes[n]).items = [] := by
  simp [lanesEmpty, Fin.forall_iff]

/-! ### Completions -/

/-- A completion that no gate waits for counts its outcome and changes nothing else of the scan controller
(R39). -/
theorem ctrlTake_counts (it : Item) (o : ItemOutcome) (s : State)
    (h : s.ctrl.walker ≠ .heldGate ∨ it.kind ≠ .gate) :
    ctrlTake it o s = { s with ctrl := { s.ctrl with current := s.ctrl.current.countOutcome o } } := by
  have : awaitsGate s.ctrl it = false := by rcases h with h | h <;> simp [awaitsGate, h]
  simp [ctrlTake, this]

/-- Waiting items that are no gates complete SKIPPED in the report alone (R67). -/
theorem completeAll_skipped (n : Fin 4) (l : List Item) (s : State) (h : ∀ x ∈ l, x.kind ≠ .gate) :
    completeAll n .skipped l s = { s with ctrl := { s.ctrl with current := { s.ctrl.current with
      laneSkipped := s.ctrl.current.laneSkipped + l.length } } } := by
  induction l generalizing s with
  | nil => rfl
  | cons it l ih =>
    rw [completeAll_cons, complete_quiet _ _ _ _ (.inl rfl),
      ctrlTake_counts it .skipped s (.inr (h it (by simp))), ih _ fun x hx => h x (by simp [hx])]
    simp only [FrameReport.countOutcome, List.length_cons]
    congr 3; omega

/-- Bit `j` of the response (R60). -/
theorem response_getLsbD (c : LaneConfig) (it : Item) (din : BitVec 64) (j : Nat) (hj : j < 32) :
    (response c it din).getLsbD j = responseBit c it din j := by
  simp [response, hj]

/-! ### Alerts, events, accesses -/

/-- A post enters the queue or is lost (R102, R103). -/
theorem postAlert_cases (kind : AlertKind) (i : Fin 64) (q : Word) (v : Value) (s : State) :
    (s.alerts.records.length < 16 ∧ postAlert kind i q v s = { s with alerts := { s.alerts with
      records := s.alerts.records ++
        [{ serial := s.alerts.nextSerial, kind := kind, slot := i, sequence := q, value := v }]
      nextSerial := s.alerts.nextSerial + 1 } }) ∨
    (16 ≤ s.alerts.records.length ∧
      postAlert kind i q v s = raise srcAlertLost { s with alerts := { s.alerts with lost := true } }) := by
  by_cases h : s.alerts.records.length < 16
  · exact .inl ⟨h, by simp [postAlert, h]⟩
  · exact .inr ⟨by omega, by simp [postAlert, h]⟩

/-- A raise sets its pending flag or, masked, does nothing (R125). -/
theorem raise_cases (e : Events) (n : Fin 16) :
    e.raise n = e ∨ e.raise n = { e with edges := setBit e.edges n } := by
  unfold Events.raise; split <;> simp

/-- A done is refused with one of its two errors or pops the top (R135). -/
theorem writeDone_cases (v : Word) (s : State) :
    (∃ err, writeDone v s = refuseWrite err 0x18 s) ∨
    ∃ top rest, s.events.stack = top :: rest ∧ v.toNat = top.source.val ∧
      writeDone v s = { s with events := { s.events with stack := rest } } := by
  unfold writeDone
  cases h : s.events.stack with
  | nil => exact .inl ⟨_, rfl⟩
  | cons top rest =>
    by_cases hv : v.toNat = top.source.val
    · exact .inr ⟨top, rest, rfl, hv, by simp [hv]⟩
    · exact .inl ⟨.doneMismatch, by simp [hv]⟩

/-- A claim takes an eligible source into service or changes nothing (R132, R133). -/
theorem claim_cases (s : State) :
    claim s = s ∨ ∃ n, bestEligible s = some n ∧
      claim s = { s with events := s.events.takeIntoService n } := by
  unfold claim
  cases h : bestEligible s with
  | none => exact .inl rfl
  | some n => exact .inr ⟨n, rfl, rfl⟩

/-- The best of the sources folded over is one of them, eligible, or the best before. -/
theorem bestEligible_eligible (s : State) (n : Fin 16) (h : bestEligible s = some n) :
    isEligible s n = true := by
  have key : ∀ (l : List (Fin 16)) (b : Option (Fin 16)),
      (∀ m, b = some m → isEligible s m = true) →
      ∀ m, l.foldl (betterSource s) b = some m → isEligible s m = true := by
    intro l
    induction l with
    | nil => intro b hb m hm; exact hb m hm
    | cons a l ih =>
      intro b hb
      apply ih
      intro m hm
      unfold betterSource at hm
      split at hm
      · rename_i ha
        cases b with
        | none => cases hm; exact ha
        | some c =>
          simp only at hm
          split at hm
          · cases hm; exact ha
          · cases hm; exact hb _ rfl
      · exact hb m hm
  exact key allSources none (by simp) n h

/-- Every lane has its place in the order of a tick. -/
theorem mem_tickOrder (first : List (Fin 4)) (n : Fin 4) : n ∈ tickOrder first := by
  simp [tickOrder, allLanes]; omega

/-- A list without repeats loses none. -/
theorem eraseDups_of_nodup (l : List (Fin 4)) (h : l.Nodup) : l.eraseDups = l := by
  induction l with
  | nil => rfl
  | cons a l ih =>
    rw [List.nodup_cons] at h
    have hf : l.filter (fun b => !b == a) = l :=
      List.filter_eq_self.2 fun b hb => by simp only [Bool.not_eq_true', beq_eq_false_iff_ne]; rintro rfl; exact h.1 hb
    rw [List.eraseDups_cons, hf, ih h.2]

/-- The lanes that are named once come first, as they are named. -/
theorem tickOrder_prefix (first : List (Fin 4)) (h : first.Nodup) : first <+: tickOrder first := by
  rw [tickOrder, List.eraseDups_append, eraseDups_of_nodup first h]
  exact List.prefix_append _ _

/-- No lane comes twice. -/
theorem tickOrder_nodup (first : List (Fin 4)) : (tickOrder first).Nodup := by
  have key : ∀ (k : Nat) (l : List (Fin 4)), l.length ≤ k → l.eraseDups.Nodup := by
    intro k
    induction k with
    | zero => intro l h; rw [List.length_eq_zero_iff.1 (Nat.le_zero.1 h)]; exact List.nodup_nil
    | succ k ih =>
      intro l h
      cases l with
      | nil => exact List.nodup_nil
      | cons a l =>
        rw [List.eraseDups_cons, List.nodup_cons]
        refine ⟨by simp, ih _ (Nat.le_trans (List.length_filter_le ..) (Nat.le_of_succ_le_succ h))⟩
  exact key _ _ (Nat.le_refl _)

/-- A tick that ends nothing is its counts (R112). -/
theorem tickTimerFirst_quiet (ending : Ending) (s : State) (ht : s.timer.expiresNext = false)
    (hl : endedLanes (nextMeeting s).order (takeTick (takeMeeting s)) = []) :
    tickTimerFirst ending s = takeTick (takeMeeting s) := by
  have he : (takeMeeting s).timer.expiresNext = false := ht
  simp [tickTimerFirst, hl, ht, expireTimerIf, expireLanes]

/-- What each member of a list keeps, all of them keep, one after another. -/
theorem foldl_keeps {α : Type} (P : State → Prop) (f : State → α → State) (l : List α)
    (h : ∀ t, ∀ a ∈ l, P t → P (f t a)) (s : State) (hs : P s) : P (l.foldl f s) := by
  induction l generalizing s with
  | nil => exact hs
  | cons a l ih => exact ih (fun t b hb => h t b (by simp [hb])) _ (h s a (by simp) hs)

/-- A lane whose wait is over ends its item; any other lane is left as it is (R57, R63). -/
theorem expireLane_cases (ending : Ending) (n : Fin 4) (s : State) :
    (∃ it k, (s.lanes[n]).phase = .readyWait it k ∧
      expireLane ending n s = ending n it (.fault .readyTimeout) s) ∨
    (∃ it k, (s.lanes[n]).phase = .pausing it k ∧
      expireLane ending n s = ending n it (.completed 0) s) ∨
    expireLane ending n s = s := by
  unfold expireLane
  split
  · rename_i it k h; exact .inl ⟨it, k, h, rfl⟩
  · rename_i it k h; exact .inr (.inl ⟨it, k, h, rfl⟩)
  all_goals exact .inr (.inr rfl)

/-- What every ending of an item keeps, the ends that a tick brings keep. -/
theorem expireLanes_keeps (P : State → Prop) (ending : Ending)
    (h : ∀ n it o t, P t → P (ending n it o t)) (ns : List (Fin 4)) (s : State) (hs : P s) :
    P (expireLanes ending ns s) := by
  induction ns generalizing s with
  | nil => exact hs
  | cons n ns ih =>
    apply ih
    show P (expireLane ending n s)
    rcases expireLane_cases ending n s with ⟨it, k, -, e⟩ | ⟨it, k, -, e⟩ | e <;> rw [e]
    · exact h _ _ _ _ hs
    · exact h _ _ _ _ hs
    · exact hs

/-- A late count is none, or the first tick of a wait or pause, which it ends where that is the last one (R57,
R63, R114). -/
theorem lateCount_cases (ending : Ending) (s : State) (n : Fin 4) :
    lateCount ending s n = s ∨
    (∃ it, (s.lanes[n]).phase = .readyWait it 0 ∧
      ((1 < (s.lanes[n]).cfg.readyTimeout.toNat ∧
          lateCount ending s n = setPhase n (.readyWait it 1) s) ∨
        ((s.lanes[n]).cfg.readyTimeout.toNat ≤ 1 ∧
          lateCount ending s n = ending n it (.fault .readyTimeout) (setPhase n (.readyWait it 1) s)))) ∨
    ∃ it, (s.lanes[n]).phase = .pausing it 0 ∧
      ((1 < it.duration.toNat ∧ lateCount ending s n = setPhase n (.pausing it 1) s) ∨
        (it.duration.toNat ≤ 1 ∧
          lateCount ending s n = ending n it (.completed 0) (setPhase n (.pausing it 1) s))) := by
  by_cases hj : (s.lanes[n]).phase.justEntered = true
  · refine .inr ?_
    cases hp : (s.lanes[n]).phase with
    | readyWait it k =>
      have hk : k = 0 := by rw [hp] at hj; simpa [LanePhase.justEntered] using hj
      subst hk
      have ht : setLane n (s.lanes[n]).countTick s = setPhase n (.readyWait it 1) s := by
        simp only [Lane.countTick, hp, LanePhase.countTick, setPhase]
      have hs := setPhase_lanes_self s n (.readyWait it 1)
      refine .inl ⟨it, rfl, ?_⟩
      rw [lateCount, if_pos hj, ht]
      by_cases h : (s.lanes[n]).cfg.readyTimeout.toNat ≤ 1
      · exact .inr ⟨h, by simp only [timeoutReached, pauseReached, expireLane, hs, decide_eq_true h, Bool.or_false, if_true]⟩
      · exact .inl ⟨by omega, by simp only [timeoutReached, pauseReached, hs, decide_eq_false h, Bool.or_self, Bool.false_eq_true, if_false]⟩
    | pausing it k =>
      have hk : k = 0 := by rw [hp] at hj; simpa [LanePhase.justEntered] using hj
      subst hk
      have ht : setLane n (s.lanes[n]).countTick s = setPhase n (.pausing it 1) s := by
        simp only [Lane.countTick, hp, LanePhase.countTick, setPhase]
      have hs := setPhase_lanes_self s n (.pausing it 1)
      refine .inr ⟨it, rfl, ?_⟩
      rw [lateCount, if_pos hj, ht]
      by_cases h : it.duration.toNat ≤ 1
      · exact .inr ⟨h, by simp only [timeoutReached, pauseReached, expireLane, hs, decide_eq_true h, Bool.false_or, if_true]⟩
      · exact .inl ⟨by omega, by simp only [timeoutReached, pauseReached, hs, decide_eq_false h, Bool.or_self, Bool.false_eq_true, if_false]⟩
    | _ => rw [hp] at hj; simp [LanePhase.justEntered] at hj
  · exact .inl (if_neg hj)

/-- After the counts of a tick no wait stands at 0. -/
theorem countTick_justEntered (p : LanePhase) : p.countTick.justEntered = false := by
  cases p <;> simp [LanePhase.countTick, LanePhase.justEntered]

/-- Right after the counts of a tick no lane counts it late. -/
theorem lateCount_takeTick (ending : Ending) (s : State) (n : Fin 4) :
    lateCount ending (takeTick s) n = takeTick s := by
  simp [lateCount, takeTick, mapLanes, Lane.countTick, countTick_justEntered]

/-- What every ending keeps, a whole tick keeps whose counts and timer expiry keep it. -/
theorem tickTimerFirst_keeps (P : State → Prop) (ending : Ending)
    (h : ∀ n it o t, P t → P (ending n it o t)) (s : State) (hc : P (takeTick (takeMeeting s)))
    (he : s.timer.expiresNext = true → P (expireTimer (takeTick (takeMeeting s)))) :
    P (tickTimerFirst ending s) := by
  apply expireLanes_keeps P ending h
  cases hn : s.timer.expiresNext
  · exact hc
  · exact he hn

/-- What a late count, a release and a due frame end keep, each step that follows a tick keeps. -/
theorem lateStep_keeps (P : State → Prop) (hl : ∀ t n, P t → P (lateCount finishItem t n))
    (hr : ∀ t, P t → t.ctrl.walker = .heldQueue → P (takeAndRelease t))
    (hf : ∀ t, P t → frameEndDue t = true → P (meetFrameEnd t)) (s : State) (x : LateStep) (hs : P s) :
    P (lateStep s x) := by
  cases x with
  | count n => exact hl s n hs
  | release =>
    simp only [lateStep, when]
    split
    · rename_i hw; exact hr s hs (of_decide_eq_true hw)
    · exact hs
  | frameEnd =>
    simp only [lateStep, when]
    split
    · rename_i hd; exact hf s hs hd
    · exact hs

/-- What a due frame end keeps, the frame ends that come before a trigger keep (R26). -/
theorem frameEndsBefore_keeps (P : State → Prop)
    (hf : ∀ t, P t → frameEndDue t = true → P (meetFrameEnd t)) (s : State) (hs : P s)
    (hd : frameEndDue s = true) : P (frameEndsBefore s) := by
  have h1 := hf s hs hd
  simp only [frameEndsBefore, when]
  split
  · split
    · rename_i h2; exact hf _ h1 h2
    · exact h1
  · exact h1

/-- A frame end that comes before a trigger is one that was due, one behind the release of the held entry, or
there is none (R26, R35). -/
theorem frameEndFirst_cases (s : State) :
    (frameEndDue s = true ∧ frameEndFirst s = frameEndsBefore s) ∨
    (s.ctrl.walker = .heldQueue ∧ frameEndDue (takeAndRelease s) = true ∧
      frameEndFirst s = frameEndsBefore (takeAndRelease s)) ∨
    frameEndFirst s = s := by
  by_cases hw : s.ctrl.walker = .heldQueue
  · cases hd : frameEndDue (takeAndRelease s)
    · exact .inr (.inr (by simp [frameEndFirst, when, hw, hd]))
    · exact .inr (.inl ⟨hw, rfl, by simp [frameEndFirst, when, hw, hd]⟩)
  · cases hd : frameEndDue s
    · exact .inr (.inr (by simp [frameEndFirst, when, hw, hd]))
    · exact .inl ⟨rfl, by simp [frameEndFirst, when, hw, hd]⟩

/-- What every end of an item keeps, a whole tick with a lane first keeps, where its counts, the timer's
action, a late count, the release of a held entry, a due frame end and a trigger keep it. -/
theorem tickLaneFirst_keeps (P : State → Prop) (h : ∀ n it o t, P t → P (finishItem n it o t))
    (n : Fin 4) (s : State) (hc : P (takeTick (takeMeeting s)))
    (ha : s.timer.expiresNext = true → P (actAtExpiry (takeTick (takeMeeting s))))
    (hl : ∀ t m, P t → P (lateCount finishItem t m))
    (hr : ∀ t, P t → t.ctrl.walker = .heldQueue → P (takeAndRelease t))
    (hf : ∀ t, P t → frameEndDue t = true → P (meetFrameEnd t)) (ht : ∀ t, P t → P (takeTrigger t)) :
    P (tickLaneFirst n s) := by
  have hk := expireLanes_keeps P finishItem h
    (n :: (endedLanes (nextMeeting s).order (takeTick (takeMeeting s))).filter fun m => decide (m ≠ n))
  have hs := fun l => foldl_keeps P lateStep l fun t x _ => lateStep_keeps P hl hr hf t x
  simp only [tickLaneFirst]
  split
  · rename_i hx
    have hb := hs (nextMeeting s).late _ (hk _ (ha hx))
    apply hs
    apply ht
    rcases frameEndFirst_cases _ with ⟨hd, e⟩ | ⟨hw, hd, e⟩ | e <;> rw [e]
    · exact frameEndsBefore_keeps P hf _ hb hd
    · exact frameEndsBefore_keeps P hf _ (hr _ hb hw) hd
    · exact hb
  · exact hs _ _ (hk _ hc)

/-- A tick that lane `n` comes first in and that expires no timer is the counts, the ends, and what follows
them (R57, R63, R114). -/
theorem tickLaneFirst_no_expiry (n : Fin 4) (s : State) (h : s.timer.expiresNext = false) :
    tickLaneFirst n s = (nextMeeting s).late.foldl lateStep
      (expireLanes finishItem (n :: (endedLanes (nextMeeting s).order (takeTick (takeMeeting s))).filter fun m => decide (m ≠ n))
        (takeTick (takeMeeting s))) := by
  simp [tickLaneFirst, h]

/-- The end of a gap is the ending of its item, or nothing (R62). -/
theorem endGap_cases (ending : Ending) (n : Fin 4) (s : State) :
    (∃ it o, (s.lanes[n]).phase = .gap it o ∧ endGap ending n s = ending n it o s) ∨
    endGap ending n s = s := by
  unfold endGap
  split
  · rename_i it o h; exact .inl ⟨it, o, h, rfl⟩
  all_goals exact .inr rfl

/-- The end of shifting decides the outcome and enters GAP, whose end follows at once where the gap is 0
(R61, R62). -/
theorem endShifting_cases (ending : Ending) (n : Fin 4) (din : BitVec 64) (s : State) :
    (∃ it, (s.lanes[n]).phase = .shifting it ∧ ∃ o, o = shiftOutcome (s.lanes[n]).cfg it din ∧
      (((s.lanes[n]).cfg.gap = 0 ∧
          endShifting ending n din s = ending n it o (setPhase n (.gap it o) s)) ∨
        ((s.lanes[n]).cfg.gap ≠ 0 ∧ endShifting ending n din s = setPhase n (.gap it o) s))) ∨
    endShifting ending n din s = s := by
  unfold endShifting
  split
  · rename_i it h
    refine .inl ⟨it, h, _, rfl, ?_⟩
    by_cases hg : (s.lanes[n]).cfg.gap = 0
    · exact .inl ⟨hg, if_pos hg⟩
    · exact .inr ⟨hg, if_neg hg⟩
  all_goals exact .inr rfl

/-- What every end of an item keeps that releases no walk, each lane event that meets an ABORT keeps, a
tick where its counts, a timer expiry and a late count keep it (R46). -/
theorem laneEnd_keeps (P : State → Prop) (h : ∀ n it o t, P t → P (settleItem n it o t))
    (hp : ∀ n p t, P t → P (setPhase n p t)) (hc : ∀ t, P t → P (takeTick t))
    (he : ∀ t, P t → P (expireTimer t))
    (hm : ∀ t, P t → P (takeMeeting t)) (hl : ∀ t n, P t → P (lateCount settleItem t n)) (s : State) (e : LaneEnd) (hs : P s) : P (laneEnd s e) := by
  cases e with
  | gapEnd n =>
    rcases endGap_cases settleItem n s with ⟨it, o, -, e⟩ | e <;> simp only [laneEnd, e]
    · exact h _ _ _ _ hs
    · exact hs
  | shiftEnd n din =>
    rcases endShifting_cases settleItem n din s with ⟨it, -, o, -, ⟨-, e⟩ | ⟨-, e⟩⟩ | e <;>
      simp only [laneEnd, e]
    · exact h _ _ _ _ (hp _ _ _ hs)
    · exact hp _ _ _ hs
    · exact hs
  | tick =>
    apply foldl_keeps P _ _ fun t n _ => hl t n
    exact tickTimerFirst_keeps P settleItem h s (hc _ (hm s hs)) fun _ => he _ (hc _ (hm s hs))

/-- What the lane events and the request of a lane keep, every step between an ABORT and its last request
keeps (R46, R70). -/
theorem abortStep_keeps (P : State → Prop) (he : ∀ t e, P t → P (laneEnd t e))
    (hr : ∀ t n, P t → P (abortLane t n)) (s : State) (x : AbortStep) (hs : P s) : P (abortStep s x) := by
  cases x with
  | event e => exact he s e hs
  | request n => exact hr s n hs

/-- A host read that meets a frame end changes nothing but the pending set, the service stack and the word
last read (R132, R133, R138). -/
theorem takeRead_eq (s : State) (r : EventRead) :
    takeRead s r = { s with
      events := { s.events with edges := (takeRead s r).events.edges, stack := (takeRead s r).events.stack }
      window := { s.window with lastRead := (takeRead s r).window.lastRead } } := by
  cases r with
  | claim =>
    simp only [takeRead, hostRead, claim]
    split <;> rfl
  | pending => rfl
  | service => rfl

/-- Such reads find nothing of the scan controller and of the timer, and leave both as they are. -/
theorem takeRead_frame (s : State) (c : Ctrl) (m : Timebase) (r : EventRead) :
    takeRead { s with ctrl := c, timer := m } r = { takeRead s r with ctrl := c, timer := m } := by
  cases r with
  | claim =>
    simp only [takeRead, hostRead, registerWord]
    have h : claim { s with ctrl := c, timer := m } = { claim s with ctrl := c, timer := m } := by
      unfold claim
      have hb : bestEligible { s with ctrl := c, timer := m } = bestEligible s := rfl
      rw [hb]
      split <;> rfl
    rw [h]; rfl
  | pending => rfl
  | service => rfl

theorem takeReads_frame (reads : List EventRead) (s : State) (c : Ctrl) (m : Timebase) :
    takeReads reads { s with ctrl := c, timer := m } = { takeReads reads s with ctrl := c, timer := m } := by
  induction reads generalizing s with
  | nil => rfl
  | cons r l ih => exact (congrArg _ (takeRead_frame s c m r)).trans (ih _)

/-- What every such read keeps, all of them keep. -/
theorem takeReads_keeps (P : State → Prop) (h : ∀ t r, P t → P (takeRead t r))
    (reads : List EventRead) (s : State) (hs : P s) : P (takeReads reads s) :=
  foldl_keeps P takeRead reads (fun t r _ => h t r) s hs

/-! ### SOFT_RESET -/

/-- An event as its block takes it is its row (R142). -/
theorem eventRow_exec (s : State) (c : Instr) (h : isMirrorRow c = true ∨ isInnerEvent c = true) :
    eventRow s c = stateOf s (exec c s) := by
  cases c <;> first
    | exact (show false = true ∨ false = true from h).elim nofun nofun
    | rfl

/-- A row of the host or of a reset is no event that meets a SOFT_RESET. -/
theorem eventRow_other (s : State) (c : Instr) (hm : isMirrorRow c = false) (hi : isInnerEvent c = false) :
    eventRow s c = s := by
  cases c <;> first
    | exact nomatch (show true = false from hm)
    | exact nomatch (show true = false from hi)
    | rfl

/-- What every event row and every choice of the kept raises keeps, the events that meet a SOFT_RESET keep. -/
theorem meetSoftReset_keeps (P : State → Prop) (m : Meeting) (s : State)
    (hrow : ∀ t c, P t → P (eventRow t c)) (hkeep : ∀ t w, P t → P (keepEdges w t))
    (hs : P { s with meetings := [], events := { s.events with edges := 0 } }) : P (meetSoftReset m s) :=
  hkeep _ _ (foldl_keeps P eventRow _ (fun t c _ => hrow t c) _
    (hkeep _ _ (foldl_keeps P eventRow _ (fun t c _ => hrow t c) _ hs)))

/-- No raise of a completion is kept over a SOFT_RESET (R72). -/
theorem meetSoftReset_completion (m : Meeting) (s : State) :
    (meetSoftReset m s).events.edges &&& completionSources = 0 := by
  simp [meetSoftReset, keepEdges, BitVec.and_assoc, completionSources]

/-- A mirror request row completes its request or does nothing (log entry 8). -/
theorem receiveRequest_cases (command argument : Byte) (s : State) :
    receiveRequest command argument s = s ∨
    (s.mirror.transaction = .request ∧ s.mirror.agrees command argument = true ∧
      receiveRequest command argument s =
        requestComplete (setMirror (s.mirror.received command argument) s)) := by
  unfold receiveRequest
  by_cases h : s.mirror.transaction = .request <;> cases h2 : s.mirror.agrees command argument <;>
    simp [h]

end Sys2Proof.Machine
end

