-- ==== Sys2Proof/WellFormed.lean ====
section
/-! DEFINITION. Which terms of `Instr` spell a row of the table: three rows carry an operand that
another row's operand could not be, and every other term is a row as it stands. -/

namespace Sys2Proof

/-- The value is one of the twelve command codes of 11.4. -/
def isCommandCode (value : Word) : Bool :=
  decide (1 ≤ value.toNat) && decide (value.toNat ≤ 12)

/-- The byte is one of the six mirror command codes of 11.3. -/
def isMirrorCode (command : Byte) : Bool :=
  [0x21#8, 0x22#8, 0x30#8, 0x40#8, 0x41#8, 0x50#8].contains command

/-- The addresses whose host writes are rows of their own: COMMAND, ACCESS_ERR, TIMER_MODE,
TIMER_DIV, TIMER_PERIOD, TABLE_SEL, SAMPLE_SEL, ALERT_ACK, EV_DONE, EV_THRESH, EV_RAISE. -/
def hasOwnWriteRow (addr : BitVec 5) : Bool :=
  [0x02#5, 0x04#5, 0x07#5, 0x08#5, 0x09#5, 0x0B#5, 0x0E#5, 0x17#5, 0x18#5, 0x19#5, 0x1C#5].contains addr

/-- The term spells the row of its constructor. -/
def Instr.wellFormed : Instr → Bool
  | .undefinedCommandCode value => !isCommandCode value
  | .registerWrite addr _ => !hasOwnWriteRow addr
  | .mirrorUnknownCommand command => !isMirrorCode command
  | _ => true

end Sys2Proof
end

