-- ==== Sys2Proof/Tests/Slice0.lean ====
section
/-! SUPPORT. Tests of one step each, their expected values from the manual's tables and worked examples,
and for each statement with hypotheses a state that meets them. -/

namespace Sys2Proof.Tests

open Sys2Proof Sys2Proof.Machine

/-! ### Helpers -/

/-- The state after one command. -/
def after (c : Instr) (s : State) : State := stateOf s (exec c s)

/-- An entry from words 0 and 1, words 2 and 3, words 4 and 5, words 6 and 7 (11.2). -/
def entry (kind rate phase wait sel lane outLen inLen sgn : Nat) (outWord w4 w6 : Nat) : Entry :=
  ⟨#v[BitVec.ofNat 16 (kind + 8 * rate + 64 * phase + 8192 * wait + 16384 * sel),
    BitVec.ofNat 16 (lane + 4 * outLen + 256 * inLen + 32768 * sgn),
    BitVec.ofNat 16 outWord, BitVec.ofNat 16 (outWord / 65536),
    BitVec.ofNat 16 w4, BitVec.ofNat 16 (w4 / 65536), BitVec.ofNat 16 w6, BitVec.ofNat 16 (w6 / 65536)]⟩

/-- Word 4 of an EXCHANGE: slot, shift, width less one. -/
def extWord (slot shift width : Nat) : Nat := slot + 64 * shift + 2048 * (width - 1)

def endEntry : Entry := entry 5 0 0 0 0 0 0 0 0 0 0 0

/-- A bank that holds these entries first, then EMPTY ones. -/
def bankOf (l : List Entry) : Bank := Vector.ofFn fun i => l.getD i.val Entry.blank

/-- An enabled lane at its power-on settings, IDLE. -/
def idleLane : Lane := { cfg := { LaneConfig.powerOn with enable := true }, phase := .idle, queue := [] }

/-- An item of a kind, with 8 bits out and 8 in, naming slot 4. -/
def item (kind : ItemKind) : Item :=
  { index := 2, kind := kind, select := 0, waitReady := false, outLen := 8, outWord := 0, inLen := 8
    slot := 4, extShift := 0, extWidth := 8, extSigned := false, duration := 1, frame := 12 }

/-- The device with its controller, lane 0 and bank A replaced. -/
def device (state : CtrlState) (walker : WalkerState) (lane : Lane) (entries : List Entry) : State :=
  { State.reset with
    ctrl := { State.reset.ctrl with state := state, walker := walker }
    lanes := #v[lane, idleLane, idleLane, idleLane], bankA := bankOf entries }

def waiting : State := device .waiting .idle idleLane [endEntry]
def draining : State := device .active .draining idleLane [endEntry]
def resetHeld : State := powerOn State.reset

/-- Lane 0 with an item in a phase. -/
def laneWith (p : LanePhase) : Lane := { idleLane with phase := p }

/-- The schedule of 10.8: WRITE, PAUSE, GATE, three EXCHANGEs, END. -/
def schedule : List Entry :=
  [entry 2 0 0 0 0 0 8 0 0 0x55 0 0, entry 4 0 0 0 0 0 0 0 0 0 40 0,
   entry 3 0 0 0 0 0 8 8 0 0x10000000 0x80 0x80,
   entry 1 0 0 0 0 0 8 24 1 0 (extWord 4 0 24) 0, entry 1 0 0 0 1 0 8 8 0 0 (extWord 5 0 8) 0,
   entry 1 0 0 0 0 1 8 8 0 0 (extWord 6 0 8) 0, endEntry]

/-- The gate of 10.8 at the end of its gap, the walker holding for it in frame 12. -/
def gateState (o : ItemOutcome) : State :=
  let s := device .active .heldGate (laneWith (.gap (item .gate) o)) schedule
  { s with ctrl := { s.ctrl with position := 2, frame := 12 } }

/-! ### WellFormed refuses an operand that another row spells -/

theorem test_wellFormed_undefined_code :
    (Instr.undefinedCommandCode 1).wellFormed = false ∧ (Instr.undefinedCommandCode 12).wellFormed = false ∧
      (Instr.undefinedCommandCode 0).wellFormed = true ∧ (Instr.undefinedCommandCode 13).wellFormed = true := by
  decide

theorem test_wellFormed_register_write :
    (Instr.registerWrite 0x0B 0).wellFormed = false ∧ (Instr.registerWrite 0x0C 0).wellFormed = true := by
  decide

theorem test_wellFormed_unknown_command :
    (Instr.mirrorUnknownCommand 0x21).wellFormed = false ∧
      (Instr.mirrorUnknownCommand 0x20).wellFormed = true := by decide

/-- No row of the table gives bits, so no word spells a command. -/
theorem test_no_word_spells_a_command :
    decodeTableWord 16 0 = none ∧ (State.reset.withFetchWord 16 7).pending = [] := by decide

/-! ### Chapter 1 -/

/-- The due pattern of chapter 1: rate 2, phase 3 is due in frames 3 and 7 of the first eight. -/
theorem test_due_pattern :
    ((List.range 8).map fun f => entryDue (entry 1 2 3 0 0 2 8 8 0 0 0 0) (BitVec.ofNat 16 (f + 1))) =
      [false, false, true, false, false, false, true, false] := by decide

/-- Layout of 11.2: kind in bits 2-0 of word 0, lane in bits 1-0 of word 1, width less one in word 4. -/
theorem test_entry_layout :
    let e : Entry := ⟨#v[0xE14A#16, 0x988E#16, 0, 0, 0x58C9#16, 0, 0, 0]⟩
    e.kind = some .write ∧ e.rate = 1 ∧ e.phase = 5 ∧ e.waitReady = true ∧ e.select = 3 ∧ e.lane = 2 ∧
      e.outLen = 35 ∧ e.inLen = 24 ∧ e.extSigned = true ∧ e.slot = 9 ∧ e.extShift = 3 ∧ e.extWidth = 12 := by
  decide

/-- COMMIT of a bank whose entry 1 has the undefined kind 6 names entry 1 (R14, R15). -/
theorem test_commit_refused :
    let t := after .commit { State.reset with bankB := bankOf [endEntry, entry 6 0 0 0 0 0 0 0 0 0 0 0] }
    t.window.result = .refusedBank ∧ t.window.resultIndex = 1 ∧ t.ctrl.active = .a := by decide

/-- COMMIT in STOPPED swaps at once (R15). -/
theorem test_commit_swaps : (after .commit State.reset).ctrl.active = .b := by decide

/-- A write through selector 0 lands in the staged bank, word 8i + k of entry i (R12, R13). -/
theorem test_staged_write :
    let t := after (.stagedBankWrite 0xBEEF)
      { State.reset with window := { State.reset.window with tableAddr := 21 } }
    (t.bankB[2]).word 5 = 0xBEEF ∧ (t.bankA[2]).word 5 = 0 ∧ t.window.tableAddr = 22 := by decide

/-! ### Chapter 2 -/

/-- 10.8: the frame start issues e0, e1 and the gate e2, and the walker holds for it. -/
theorem test_frame_start_of_10_8 :
    let t := after .trigger (device .waiting .idle idleLane schedule)
    t.ctrl.walker = .heldGate ∧ t.ctrl.position = 2 ∧ t.ctrl.current.issued = 3 ∧
      (t.lanes[0]).queue.length = 2 ∧ t.ctrl.frame = 1 := by decide

/-- 10.8: the gate passes on 80h, and e3 to e5 are issued; on 00h skip 1 leaves out e3 (R37). -/
theorem test_gate_of_10_8 :
    let t := after (.gapEnd 0) (gateState (.completed 0x80))
    let u := after (.gapEnd 0) (gateState (.completed 0))
    t.ctrl.walker = .draining ∧ t.ctrl.current.issued = 3 ∧ (t.lanes[0]).queue.length = 1 ∧
      u.ctrl.current.gateSkipped = 1 ∧ u.ctrl.current.issued = 2 := by decide

/-- 10.10 in small: ABORT counts the item in progress and those that wait, on the lanes it reaches. -/
theorem test_abort_counts :
    let l : Lane := { laneWith (.shifting (item .exchange)) with queue := [item .write, item .pause] }
    let t := after .abort (device .active .heldQueue l schedule)
    t.ctrl.current.aborted = 3 ∧ t.ctrl.walker = .draining ∧ (t.lanes[0]).phase = .idle := by decide

/-- R46: a gate completion taken before ABORT is evaluated, and the walker then drains before it issues
again; taken between ABORT and the lane's request it is counted and not evaluated. -/
theorem test_abort_meets_a_gate :
    let s := gateState (.completed 0)
    let t := after .abort { s with meetings := [{ Meeting.nothing with before := [.gapEnd 0] }] }
    let u := after .abort { s with meetings := [{ Meeting.nothing with between := [.event (.gapEnd 0)] }] }
    (t.ctrl.current.completed = 1 ∧ t.ctrl.current.issued = 0 ∧ t.ctrl.walker = .draining ∧
      t.ctrl.window = some { first := 3, last := 3 } ∧ t.meetings = []) ∧
    u.ctrl.current.completed = 1 ∧ u.ctrl.current.aborted = 0 ∧ u.ctrl.window = none := by decide

/-- 10.11: frame 40 ends with a commit pending and a deferred trigger: bank B, frame 41. -/
theorem test_frame_end_of_10_11 :
    let t := after .frameEnd { draining with
      ctrl := { draining.ctrl with frame := 40, deferred := true, commitPending := true } }
    t.ctrl.active = .b ∧ t.ctrl.commitPending = false ∧ t.ctrl.frame = 41 ∧ t.ctrl.state = .active := by
  decide

/-- R175 by R139: a claim made after the raise of FRAME_END returns 5, though FRAME_START has the higher
level, and FRAME_START is pending after it. -/
theorem test_frame_end_meets_a_claim :
    let t := after .frameEnd { draining with
      ctrl := { draining.ctrl with deferred := true }
      events := { draining.events with sources := Vector.ofFn fun n =>
        { masked := false, level := if n = srcFrameStart then 6 else 2 } }
      meetings := [{ Meeting.nothing with afterFrameEnd := [.claim] }] }
    t.window.lastRead = some 5 ∧ t.events.edges = 0x0010 ∧ t.ctrl.state = .active := by decide

/-- R46: a tick between the requests of two lanes, each with a pause that it ends: the lane that had its
request is ABORTED, the other DONE. -/
theorem test_abort_meets_a_tick_between_requests :
    let s := device .active .draining (laneWith (.pausing (item .pause) 0)) schedule
    let u := { s with lanes := s.lanes.set 1 (laneWith (.pausing (item .pause) 0)) }
    let t := after .abort { u with meetings := [{ Meeting.nothing with between := [.request 0, .event .tick] }] }
    t.ctrl.current.aborted = 1 ∧ t.ctrl.current.completed = 1 ∧ (t.lanes[1]).phase = .idle := by decide

/-- The overrun count stays at 255 (R25). -/
theorem test_overrun_saturates :
    (after .trigger { draining with ctrl := { draining.ctrl with overruns := 255 } }).ctrl.overruns = 255 ∧
      (after .trigger draining).ctrl.overruns = 1 := by decide

/-! ### Chapter 3 -/

/-- The item of the example "one exchange on the wires". -/
def wireItem : Item := { item .exchange with select := 1, outLen := 3, outWord := 6, inLen := 4 }

set_option maxRecDepth 20000 in
/-- That example: captures 1, 1, 0, 0 in periods 4 to 7 give 12 with MSB first and 3 with LSB first. -/
theorem test_response_of_the_example :
    response LaneConfig.powerOn wireItem 0b0011000 = 12 ∧
      response { LaneConfig.powerOn with lsbFirst := true } wireItem 0b0011000 = 3 := by decide

/-- That example: LnDO carries 1, 1, 0 and then the fill bit, and with LSB first 0, 1, 1. -/
theorem test_sent_bits_of_the_example :
    ((List.range 7).map fun k => sentBit LaneConfig.powerOn wireItem (k + 1)) =
      [true, true, false, false, false, false, false] ∧
    ((List.range 3).map fun k => sentBit { LaneConfig.powerOn with lsbFirst := true } wireItem (k + 1)) =
      [false, true, true] := by decide

/-- That example: the select falls at the entry to SHIFTING, and the clock is low in the first half. -/
theorem test_pins_of_the_example :
    let p := shiftPins LaneConfig.powerOn wireItem 0
    p.sel[1] = false ∧ p.sel[0] = true ∧ p.clk = false ∧ p.dout = true := by decide

set_option maxRecDepth 20000 in
/-- The response check on eight equal bits, before a gap (R61). -/
theorem test_stuck_response :
    let l : Lane := { laneWith (.shifting (item .exchange)) with
      cfg := { idleLane.cfg with responseCheck := true, gap := 2 } }
    ((after (.shiftEnd 0 0) (device .active .draining l [])).lanes[0]).phase =
      .gap (item .exchange) (.fault .stuckResponse) := by decide

set_option maxRecDepth 20000 in
/-- A gap of 0 ends at the moment it is entered: the item is done and the lane IDLE (R62). -/
theorem test_gap_zero :
    let t := after (.shiftEnd 0 0) (device .active .draining (laneWith (.shifting (item .exchange))) [])
    (t.lanes[0]).phase = .idle ∧ t.ctrl.current.completed = 1 := by decide

/-- LANE_STATUS packs three bits a lane (11.1). -/
theorem test_lane_status : laneStatusWord #v[idleLane, laneWith .halted, idleLane, Lane.powerOn] = 0x0071 := by
  decide

/-- A HALTED lane skips what waits, and the report counts it (R67). -/
theorem test_halt_skips :
    let l : Lane := { laneWith (.gap (item .exchange) (.fault .stuckResponse)) with
      cfg := { idleLane.cfg with haltOnFault := true }, queue := [item .write, item .pause] }
    let t := after (.gapEnd 0) (device .active .draining l [])
    t.ctrl.current.laneSkipped = 2 ∧ (t.lanes[0]).phase = .halted := by decide

/-! ### Chapter 4 -/

/-- The table of extractions under R79. -/
theorem test_extraction_table :
    (extractField 0xF9C3 4 12 false).toInt = 3996 ∧ (extractField 0xF9C3 4 12 true).toInt = -100 ∧
    (extractField 0x0A7F 0 12 false).toInt = 2687 ∧ (extractField 0x800000 0 24 true).toInt = -8388608 ∧
    (extractField 0x7FFFFF 0 24 true).toInt = 8388607 ∧
    (extractField 0x80000000 0 32 false).toInt = -2147483648 ∧
    (extractField 0x80 7 1 true).toInt = -1 ∧ (extractField 0x80 7 1 false).toInt = 1 := by decide

/-- A consume leaves READ in the table and FRESH in the latch (R87). -/
theorem test_consume :
    let t := after (.sampleSnapshotConsume 4)
      (setSlot 4 { Slot.cleared with status := .fresh, overwrite := true } State.reset)
    (t.samples.slots[4]).status = .read ∧ (t.samples.slots[4]).overwrite = false ∧
      t.samples.latch.status = .fresh ∧ t.samples.latch.overwrite = true := by decide

/-! ### Chapter 5 -/

/-- Slot 9 of the example "one slot through its limits". -/
def slot9 : SlotConfig :=
  { SlotConfig.powerOn with
    high := 1000, low := 0, hysteresis := 50, limitEnable := true, highAlert := true, lowAlert := true
    returnAlert := true }

/-- That example, frames 21 to 27. -/
theorem test_limits_of_the_example :
    evaluateLimit slot9 .unknown 500 = (.inBand, .none) ∧ evaluateLimit slot9 .inBand 1020 = (.high, .high) ∧
    evaluateLimit slot9 .high 980 = (.high, .none) ∧ evaluateLimit slot9 .high 940 = (.inBand, .back) ∧
    evaluateLimit slot9 .inBand (-5) = (.low, .low) ∧ evaluateLimit slot9 .low 30 = (.low, .none) ∧
    evaluateLimit slot9 .low 60 = (.inBand, .back) := by decide

/-- Frame 22 of that example: alert HIGH with serial 40 and the value 1020. -/
theorem test_alert_of_the_example :
    (storeSample 9 1020 22 { State.reset with
      limits := State.reset.limits.set 9 slot9
      alerts := { State.reset.alerts with nextSerial := 40 } }).alerts.records =
      [{ serial := 40, kind := .high, slot := 9, sequence := 22, value := 1020 }] := by decide

/-! ### Chapter 6 -/

/-- The tick that brings a PERIODIC timer from 1 to 0 delivers a trigger and reloads (R117). -/
theorem test_timer_expiry :
    let t := after .timerExpiry { waiting with
      timer := { State.reset.timer with mode := .periodic, counting := true, count := 1, period := 5 } }
    t.timer.count = 5 ∧ t.ctrl.frame = 1 := by decide

/-- A tick decrements and a pause counts it (R116, R63). -/
theorem test_tick :
    let s := device .active .draining (laneWith (.pausing { item .pause with duration := 2 } 0)) []
    let t := after .tick { s with timer := { s.timer with mode := .oneShot, counting := true, count := 9 } }
    t.timer.count = 8 ∧ (t.lanes[0]).phase = .pausing { item .pause with duration := 2 } 1 := by decide

/-- The last pause of a frame, one tick before its end and before the timer's expiry. -/
def closing (deferred stopping : Bool) : State :=
  let s := device .active .draining (laneWith (.pausing (item .pause) 0)) []
  { s with
    ctrl := { s.ctrl with deferred := deferred, stopPending := stopping }
    timer := { s.timer with mode := .periodic, counting := true, count := 1, period := 5 } }

/-- The tick that ends a pause and expires the timer does both (R112, R117, R63). R26, the trigger first: it
finds the frame and is dropped; the frame end first: it finds WAITING and starts the next one. -/
theorem test_whole_tick :
    (let t := after .tick (closing false false)
     (t.lanes[0]).phase = .idle ∧ t.ctrl.overruns = 1 ∧ t.ctrl.frame = 0 ∧ t.timer.count = 5) ∧
    (let t := after (.pauseExpiry 0) (closing false false)
     (t.lanes[0]).phase = .idle ∧ t.ctrl.overruns = 0 ∧ t.ctrl.frame = 1 ∧ t.ctrl.state = .active) := by decide

/-- R26 with the frame end first: a deferred frame of an empty bank starts, and the trigger finds it and is
dropped, or finds WAITING behind its frame end and starts frame 2; a
controller that has entered STOPPED ignores the trigger, the timer halted at the reloaded count (R118). -/
theorem test_frame_end_first :
    (let t := after (.pauseExpiry 0) (closing true false)
     t.ctrl.frame = 1 ∧ t.ctrl.overruns = 1 ∧ t.ctrl.deferred = false) ∧
    (let t := after (.pauseExpiry 0)
       { closing true false with meetings := [.nothing, { Meeting.nothing with endsAgain := true }] }
     t.ctrl.frame = 2 ∧ t.ctrl.overruns = 0) ∧
    (let t := after (.pauseExpiry 0) (closing true true)
     t.ctrl.state = .stopped ∧ t.ctrl.overruns = 0 ∧ t.timer.counting = false ∧ t.timer.count = 5) := by
  decide

/-- R114: the tick that ends a pause and brings the lane into the next one, of one tick, is taken before that
entry, or after it, when the second pause ends at once and the third has counted nothing or one tick of its two;
an expiry that starts a frame, whose pause counts that tick or does not. -/
theorem test_tick_meets_the_entry :
    let long : Item := { item .pause with duration := 2 }
    let s := device .active .draining
      { laneWith (.pausing (item .pause) 0) with queue := [item .pause, long] } []
    let late (l : List LateStep) (u : State) : State := { u with meetings := [{ Meeting.nothing with late := l }] }
    ((after .tick s).lanes[0]).phase = .pausing (item .pause) 0 ∧
    ((after .tick (late [.count 0] s)).lanes[0]).phase = .pausing long 0 ∧
    ((after (.pauseExpiry 0) (late [.count 0, .count 0] s)).lanes[0]).phase = .pausing long 1 ∧
    (let w := { device .waiting .idle idleLane [entry 4 0 0 0 0 0 0 0 0 0 2 0, endEntry] with
       timer := { State.reset.timer with mode := .periodic, counting := true, count := 1, period := 5 } }
     ((after .timerExpiry w).lanes[0]).phase.code = 5 ∧ ((after .timerExpiry w).lanes[0]).phase.justEntered = true ∧
     ((after .timerExpiry (late [.count 0] w)).lanes[0]).phase.justEntered = false) := by decide

/-- R142: the raise of FRAME_END meets SOFT_RESET. Taken before it, it is discarded; after it, it is kept, with the
frame's own state reset all the same. -/
theorem test_raise_meets_soft_reset :
    let s := { draining with events := { draining.events with
      sources := Vector.replicate 16 { masked := false, level := 2 }, edges := 0xFFFF } }
    let t := { s with meetings := [{ Meeting.nothing with rows := [.frameEnd], keep := 0x80B0 }] }
    (after .softReset s).events.edges = 0 ∧
      (after .softReset t).events.edges = 0x0020 ∧ (after .softReset t).ctrl.state = .stopped ∧
      (after .softReset t).ctrl.last = .afterReset ∧ (after .softReset t).meetings = [] := by decide

/-- R72: a FAULT meets SOFT_RESET. Its completion reached every receiver before the reset, so LANE0_FAULT is not kept
whatever raises are; the frame end that it made due is an event of its own, and FRAME_END is kept. FRAME_END without
the raises that follow it in its operation is not (R176). -/
theorem test_completion_meets_soft_reset :
    let s := { device .active .draining (laneWith (.gap (item .write) (.fault .stuckResponse))) [] with
      events := { State.reset.events with sources := Vector.replicate 16 { masked := false, level := 2 } } }
    let t (rows : List Instr) (keep : Word) : State :=
      { s with meetings := [{ Meeting.nothing with rows := rows, keep := keep }] }
    (after (.gapEnd 0) s).events.edges = 0x0001 ∧
      (after .softReset (t [.gapEnd 0] 0xFFFF)).events.edges = 0 ∧
      (after .softReset (t [.gapEnd 0, .frameEnd] 0xFFFF)).events.edges = 0x0020 ∧
      (after .softReset (t [.frameEnd, .gapEnd 0] 0xFFFF)).events.edges = 0 ∧
      inRaiseOrder 0x0020 = 0 := by decide

/-- R26 with R35 and R67: the tick faults the lane at whose full queue the walker holds, the held entry is
SKIPPED, and the frame ends before the trigger starts the next one. -/
theorem test_release_and_frame_end_first :
    let l : Lane := { laneWith (.readyWait (item .write) 99) with
      cfg := { idleLane.cfg with haltOnFault := true }, queue := List.replicate 4 (item .write) }
    let s := device .active .heldQueue l [entry 2 0 0 0 0 0 8 0 0 0x55 0 0, endEntry]
    let t := after (.readyTimeout 0) { s with
      timer := { s.timer with mode := .periodic, counting := true, count := 1, period := 5 } }
    t.ctrl.frame = 1 ∧ t.ctrl.last.laneSkipped = 5 ∧ t.ctrl.last.faulted = 1 ∧ t.ctrl.overruns = 0 := by decide

/-- R118 in WAITING at the expiring tick: the halt first leaves 1, the tick first leaves the reloaded count
with the trigger ignored. -/
theorem test_stop_meets_the_expiring_tick :
    let s := { waiting with
      timer := { State.reset.timer with mode := .periodic, counting := true, count := 1, period := 5 } }
    let t := { s with meetings := [{ Meeting.nothing with tickFirst := true }] }
    [Instr.stop, .abort].all fun c => decide (
      ((after c s).ctrl.state = .stopped ∧ (after c s).timer.count = 1 ∧ (after c s).ctrl.frame = 0) ∧
      (after c t).ctrl.state = .stopped ∧ (after c t).timer.count = 5 ∧ (after c t).timer.counting = false ∧
        (after c t).ctrl.frame = 0) := by decide

/-! ### Chapter 7 -/

/-- The sources of the example "nested service and a mistaken done", FRAME_END in service, sources 1 and 8
pending. -/
def nested : State :=
  { State.reset with
    alerts := { State.reset.alerts with records := [AlertRecord.emptyMarker 0] }
    events := { State.reset.events with
      sources := Vector.ofFn fun n => match n.val with
        | 1 => { masked := false, level := 5 }
        | 5 => { masked := false, level := 2 }
        | 8 => { masked := false, level := 3 }
        | 13 => { masked := false, level := 6 }
        | _ => { masked := true, level := 1 }
      edges := 2, stack := [{ source := 5, level := 2 }] } }

/-- The claim takes LANE1_FAULT at level 5. -/
theorem test_claim_of_the_example :
    let t := after .evClaim nested
    t.window.lastRead = some 1 ∧ t.events.stack.map (fun x => x.source) = [1, 5] ∧ pendingWord t = 0x0100 := by
  decide

/-- EV_DONE 5 then is DONE_MISMATCH and raises ACCESS_ERROR. -/
theorem test_done_of_the_example :
    let s := { nested with events := { nested.events with
      edges := 0, stack := { source := 1, level := 5 } :: nested.events.stack } }
    let t := after (.evDone 5) s
    t.events.stack = s.events.stack ∧ pendingWord t = 0x2100 ∧ irqActive t = true := by decide

/-- With threshold 3 ALERT_READY at level 3 is not eligible, and the claim reads FFh. -/
theorem test_null_claim_of_the_example :
    let s := after (.evThreshWrite 3) { nested with events := { nested.events with edges := 0 } }
    irqActive s = false ∧ claimWord s = 0xFF ∧ claim s = s := by decide

/-! ### Chapter 8 -/

/-- A port in REQUEST at bit count 0, MCLK idle in clock mode 0. -/
def asking : State :=
  { State.reset with mirror := { State.reset.mirror with
      cfg := { enable := true, clockMode := 0 }, inForce := { enable := true, clockMode := 0 }
      transaction := .request, mselAsserted := true, mdo := some false } }

/-- The mirror session: POST_NOTE 3Ch over the unread 5Ah. -/
theorem test_note_of_the_session :
    let t := after (.postNote 0x3C)
      { asking with mirror := { asking.mirror with note := 0x5A, unread := true } }
    t.mirror.note = 0x3C ∧ t.mirror.overwrite = true ∧ t.mirror.transaction = .response := by decide

/-- The mirror session: READ_SLOT given up after 12 bits is INCOMPLETE, its command byte kept. -/
theorem test_incomplete_of_the_session :
    (after .mselDeassert { asking with mirror := { asking.mirror with bitCount := 12, command := 0x21 } }).mirror.error =
      some { error := .incomplete, command := some 0x21 } := by decide

/-- The mirror session: PEEK_ALERT reads 00h, C3h, OK and then the record of serial 7. -/
theorem test_peek_bytes :
    let r : AlertRecord := { serial := 7, kind := .low, slot := 9, sequence := 25, value := -5 }
    let t := after .peekAlert { asking with alerts := { asking.alerts with records := [r] } }
    ((List.range 13).map t.mirror.outByte) =
      [0, 0xC3, 0x10, 7, 2, 9, 0, 25, 0xFF, 0xFF, 0xFF, 0xFB, 0] := by decide

/-! ### Chapter 9 -/

/-- The table port example at word 2: level 0 is BAD_VALUE, recorded with selector 4 and address 2. -/
theorem test_level_zero_of_the_example :
    let t := after (.sourceConfigWrite 0)
      { State.reset with window := { State.reset.window with tableSel := .sourceConfig, tableAddr := 2 } }
    t.window.accessErrorWord = 0x02D5 ∧ t.window.accessDetailWord = 0x8002 ∧ t.window.tableAddr = 2 ∧
      (t.events.sources[2]).masked = true := by decide

/-- The table port example at word 16: TABLE_RANGE, the address stays. -/
theorem test_range_of_the_example :
    let t := after (.sourceConfigWrite 0x0010)
      { State.reset with window := { State.reset.window with tableSel := .sourceConfig, tableAddr := 16 } }
    t.window.accessError.map (fun r => r.error) = some .tableRange ∧ t.window.tableAddr = 16 := by decide

/-- D15 to D0 are high-impedance in power-on reset and where no read is strobed (R159, 11.5). -/
theorem test_data_bus :
    dataBus (some 0x00) resetHeld = none ∧ dataBus none State.reset = none ∧
      dataBus (some 0x00) State.reset = some 0xA601 := by decide

/-- ID, CTRL_STATE and EV_SERVICE after reset (11.1). -/
theorem test_registers_after_reset :
    registerWord 0x00 State.reset = 0xA601 ∧ registerWord 0x01 State.reset = 0 ∧
      registerWord 0x1B State.reset = 0xFF00 ∧ registerWord 0x08 State.reset = 40 ∧
      registerWord 0x09 State.reset = 1000 := by decide

/-! ### States that meet the hypotheses of the statements

One theorem for each statement that has hypotheses; a statement of several clauses gets a state for each,
at the ends of its ranges. -/

def active : State := device .active .heldQueue idleLane schedule
def stopping : State := { active with ctrl := { active.ctrl with stopPending := true } }
def periodic : State := { State.reset with timer := { State.reset.timer with mode := .periodic } }

/-- A timer in a mode that counts at a count. -/
def counting (mode : TimerMode) (count : Word) : State :=
  { waiting with timer := { State.reset.timer with mode := mode, counting := true, count := count } }

def withArg (v : Word) (s : State) : State := { s with window := { s.window with cmdArg := v } }
def withTable (t : Table) (a : Word) (s : State) : State :=
  { s with window := { s.window with tableSel := t, tableAddr := a } }
def withMirror (m : Mirror) : State := { State.reset with mirror := m }

theorem witness_StepRunsFrontCommand :
    ({ State.reset with pending := [.start, .stop] } : State).pending = .start :: [.stop] ∧
      State.reset.pending = [] := ⟨rfl, rfl⟩

theorem witness_PowerOnResetAndRelease :
    resetHeld.inReset = true ∧ Instr.start ≠ .powerOnReset ∧ ∀ f m, Instr.start ≠ .resetRelease f m :=
  ⟨rfl, by decide, by simp⟩

theorem witness_SoftReset :
    (Running active ∧ isInnerEvent .frameEnd = true ∧ isMirrorRow .readState = true) ∧
    (isMirrorRow .start = false ∧ isInnerEvent .start = false) ∧
    ({ Meeting.nothing with rows := [.frameEnd], keep := 0x80B0 } : Meeting) =
      ({ active with meetings := [{ Meeting.nothing with rows := [.frameEnd], keep := 0x80B0 }] }
        : State).meetings.headD .nothing := ⟨⟨rfl, rfl, rfl⟩, ⟨rfl, rfl⟩, rfl⟩

theorem witness_StartAndStop :
    (Running periodic ∧ periodic.ctrl.state = .stopped ∧ periodic.timer.mode = .periodic) ∧
    (Running State.reset ∧ State.reset.ctrl.state = .stopped ∧ State.reset.timer.mode = .off) ∧
    (Running waiting ∧ waiting.ctrl.state ≠ .stopped ∧ waiting.ctrl.state = .waiting ∧
      waiting.timer.counting = false) ∧
    (let s := { counting .periodic 1 with meetings := [{ Meeting.nothing with tickFirst := true }] }
     s.ctrl.state = .waiting ∧ (s.meetings.headD Meeting.nothing).tickFirst = true ∧
       s.timer.counting = true ∧ s.timer.count = 1) ∧
    (Running active ∧ active.ctrl.state = .active) := by
  refine ⟨⟨rfl, rfl, rfl⟩, ⟨rfl, rfl, rfl⟩, ⟨rfl, by decide, rfl, rfl⟩, ⟨rfl, rfl, rfl, rfl⟩, rfl, rfl⟩

/-- A gate's end before the ABORT, a tick between two of its requests, late counts of a tick, reads among the
raises of a frame end, and a tick whose raises meet a SOFT_RESET. -/
def meeting : Meeting :=
  { before := [.gapEnd 0], between := [.request 0, .event .tick], tickFirst := true
    order := [2, 0], late := [.count 0, .release, .frameEnd], lateAfter := [.count 0]
    afterFrameEnd := [.claim, .service], afterSwap := [.claim], endsAgain := true
    rows := [.tick, .frameEnd], keep := 0xFFFF }

/-- Lane 0 at work, its timeout at the power-on 100 ticks, in DRAINING. -/
def working (p : LanePhase) (q : List Item) : State :=
  device .active .draining { laneWith p with queue := q } []

/-- The waits of lanes 1 to 3, which are IDLE here. -/
theorem working_waits (p : LanePhase) (q : List Item) : TickEndsOnly (· = 0) (working p q) := by
  refine ⟨fun h => (by cases h), fun m hm => ?_⟩
  match m with
  | 0 => exact absurd rfl hm
  | 1 | 2 | 3 => exact ⟨fun _ _ h => (by cases h), fun _ _ h => by cases h⟩

theorem working_rests (p : LanePhase) (q : List Item) : AtRest (working p q) := by
  intro h; cases h

theorem witness_AbortCommand :
    (let s := { State.reset with meetings := [meeting] }
     Running s ∧ (meeting.before.foldl laneEnd { s with meetings := [] }).ctrl.state = .stopped) ∧
    (Running waiting ∧ waiting.meetings = [] ∧ waiting.ctrl.state = .waiting) ∧
    (let s := { gateState (.completed 0x80) with meetings := [meeting] }
     Running s ∧ meeting = s.meetings.headD Meeting.nothing ∧
       (meeting.before.foldl laneEnd { s with meetings := s.meetings.tail }).ctrl.state = .active) ∧
    (draining.ctrl.walker = .draining ∧ (draining.lanes[(0 : Fin 4)]).phase ≠ .disabled ∧
      (draining.lanes[(0 : Fin 4)]).phase ≠ .halted ∧ (laneWith .halted).phase = .halted) ∧
    (Running draining ∧ AtRest draining ∧ TickEndsOnly (fun _ => False) draining ∧
      draining.ctrl.state = .active) ∧
    (let s := { working (.pausing (item .pause) 0) [] with meetings := [meeting] }
     AtRest s ∧ EndsWith 0 s (item .pause) (.completed 0) .tick (takeTick { s with meetings := [] })
       meeting.late) := by
  refine ⟨⟨rfl, by decide⟩, ⟨rfl, rfl, rfl⟩, ⟨rfl, rfl, by decide⟩,
    ⟨rfl, by decide, by decide, rfl⟩, ⟨rfl, ?_, ?_, rfl⟩,
    working_rests (.pausing (item .pause) 0) [], .inr (.inr (.inr
      ⟨0, rfl, by decide, rfl, .inr rfl, working_waits (.pausing (item .pause) 0) [], rfl, rfl⟩))⟩
  · unfold AtRest; decide
  · refine ⟨by decide, fun m _ => ?_⟩
    match m with
    | 0 | 1 | 2 | 3 => exact ⟨fun _ _ h => (by cases h), fun _ _ h => by cases h⟩

theorem witness_TriggerCommand :
    Running active ∧ State.reset.ctrl.state = .stopped ∧ waiting.ctrl.state = .waiting ∧
    (stopping.ctrl.state = .active ∧ stopping.ctrl.stopPending = true) ∧
    (active.ctrl.state = .active ∧ active.ctrl.stopPending = false ∧ active.timer.deferPolicy = false) ∧
    (let s := { active with timer := { active.timer with deferPolicy := true } }
     s.ctrl.state = .active ∧ s.ctrl.stopPending = false ∧ s.timer.deferPolicy = true ∧
       s.ctrl.deferred = false) := by
  refine ⟨rfl, rfl, rfl, ⟨rfl, rfl⟩, ⟨rfl, rfl, rfl⟩, rfl, rfl, rfl, rfl⟩

/-- An entry whose checks R14 finds sound. -/
theorem sound_blank : EntrySound Entry.blank := .inl (.inl (by decide))

theorem blankBank_sound : BankSound (Vector.replicate 64 Entry.blank) := by
  intro i; simp only [Fin.getElem_fin, Vector.getElem_replicate]; exact sound_blank

/-- The undefined kind 6 is unsound. -/
def badEntry : Entry := entry 6 0 0 0 0 0 0 0 0 0 0 0

theorem badEntry_unsound : ¬ EntrySound badEntry := by
  have h : badEntry.kind = none := by decide
  simp [EntrySound, h]

theorem witness_CommitCommand :
    (let s := { waiting with ctrl := { waiting.ctrl with commitPending := true } }
     Running s ∧ s.ctrl.commitPending = true) ∧
    (let s := { State.reset with bankB := Vector.replicate 64 badEntry }
     Running s ∧ s.ctrl.commitPending = false ∧ ¬ EntrySound (stagedBank s)[(0 : Fin 64)] ∧
       ∀ j < (0 : Fin 64), EntrySound (stagedBank s)[j]) ∧
    (let s := { State.reset with bankB := (Vector.replicate 64 Entry.blank).set 63 badEntry }
     Running s ∧ s.ctrl.commitPending = false ∧ ¬ EntrySound (stagedBank s)[(63 : Fin 64)] ∧
       ∀ j < (63 : Fin 64), EntrySound (stagedBank s)[j]) ∧
    (Running State.reset ∧ State.reset.ctrl.commitPending = false ∧
      BankSound (stagedBank State.reset) ∧ State.reset.ctrl.state = .stopped) ∧
    (Running waiting ∧ waiting.ctrl.commitPending = false ∧ BankSound (stagedBank waiting) ∧
      waiting.ctrl.state ≠ .stopped) := by
  refine ⟨⟨rfl, rfl⟩, ⟨rfl, rfl, ?_, ?_⟩, ⟨rfl, rfl, ?_, ?_⟩, ⟨rfl, rfl, blankBank_sound, rfl⟩,
    ⟨rfl, rfl, blankBank_sound, by decide⟩⟩
  · simpa [stagedBank, State.reset, Ctrl.powerOn] using badEntry_unsound
  · intro j hj; exact absurd hj (Fin.not_lt_zero j)
  · simpa [stagedBank, State.reset, Ctrl.powerOn] using badEntry_unsound
  · intro j hj
    have hj' : j.val < 63 := hj
    have : (63 : Nat) ≠ j.val := by omega
    simpa [stagedBank, State.reset, Ctrl.powerOn, Vector.getElem_set, this] using sound_blank

theorem witness_CancelCommit :
    let s := withTable .staged 511 { waiting with ctrl := { waiting.ctrl with commitPending := true } }
    Running s ∧ s.window.tableSel = .staged ∧ s.window.tableAddr.toNat < 512 := by
  refine ⟨rfl, rfl, by decide⟩

theorem witness_ClearCommands_lane_and_slot :
    (let s := withArg 0 (device .active .draining (laneWith .halted) [])
     Running s ∧ s.window.cmdArg.toNat = (0 : Fin 4).val ∧ (s.lanes[(0 : Fin 4)]).phase = .halted) ∧
    (let s := withArg 3 active
     Running s ∧ s.window.cmdArg.toNat = (3 : Fin 4).val ∧ (s.lanes[(3 : Fin 4)]).phase ≠ .halted) ∧
    (4 ≤ (withArg 4 active).window.cmdArg.toNat) ∧
    ((withArg 63 active).window.cmdArg.toNat = (63 : Fin 64).val) ∧
    (64 ≤ (withArg 64 active).window.cmdArg.toNat ∧ 64 ≤ (withArg 0xFFFF active).window.cmdArg.toNat) := by
  refine ⟨⟨rfl, rfl, rfl⟩, ⟨rfl, rfl, by decide⟩, by decide, rfl, by decide, by decide⟩

theorem witness_ClearCommands :
    Running active ∧ active.ctrl.state = .active ∧ active.ctrl.stopPending = false ∧
      active.timer.deferPolicy = false := ⟨rfl, rfl, rfl, rfl⟩

theorem witness_CommandCodes :
    Running active ∧ ((0 : Word).toNat = 0) ∧ (13 ≤ (13 : Word).toNat ∧ 13 ≤ (0xFFFF : Word).toNat) ∧
    (Instr.softReset, (12 : Word).toNat) ∈ [(Instr.start, 1), (.softReset, 12)] := by
  refine ⟨rfl, rfl, ⟨by decide, by decide⟩, by simp⟩

/-- A walker in ISSUING at entry 0 of a bank that begins with these entries. -/
def issuing (lane : Lane) (l : List Entry) : State := device .active .issuing lane l

def exchangeEntry : Entry := entry 1 0 0 0 0 0 8 8 0 0 (extWord 5 0 8) 0

/-- An open window over entry 0. -/
def windowed (l : List Entry) : State :=
  let s := issuing idleLane l
  { s with ctrl := { s.ctrl with window := some { first := 0, last := 3 } } }

def fullLane : Lane :=
  { laneWith (.shifting (item .write)) with queue := List.replicate 4 (item .write) }

def nearlyFullLane : Lane :=
  { laneWith (.shifting (item .write)) with queue := List.replicate 3 (item .write) }

theorem witness_WalkTakesEachEntry :
    (waiting.ctrl.walker ≠ .issuing ∧ waiting.ctrl.window = none ∧
      (windowed []).ctrl.window = some { first := 0, last := 3 }) ∧
    ((issuing idleLane []).ctrl.walker = .issuing ∧
      ((activeBank (issuing idleLane []))[(issuing idleLane []).ctrl.position]).kind = some .empty) ∧
    ((activeBank (windowed [endEntry]))[(windowed [endEntry]).ctrl.position].kind = some .endWalk ∧
      (windowed [endEntry]).ctrl.inWindow (windowed [endEntry]).ctrl.position = true) ∧
    (endEntry.kind = some .endWalk ∧ (issuing idleLane [endEntry]).ctrl.inWindow 0 = false) ∧
    (let e := entry 1 1 1 0 0 0 8 8 0 0 0 0
     e.itemKind = some .exchange ∧ (0 : Word).toNat % 2 ^ e.rate.toNat ≠ e.phase.toNat) ∧
    (exchangeEntry.itemKind = some .exchange ∧
      (0 : Word).toNat % 2 ^ exchangeEntry.rate.toNat = exchangeEntry.phase.toNat) ∧
    (let e := entry 1 0 0 1 0 0 8 8 0 0 0 0
     e.itemKind = some .exchange ∧ e.waitReady = true ∧ idleLane.cfg.ready = .disabled) ∧
    Lane.powerOn.cfg.enable = false ∧ exchangeEntry.waitReady = false ∧
    (4 ≤ fullLane.queue.length ∧ nearlyFullLane.queue.length < 4 ∧ fullLane.cfg.enable = true) := by
  decide

theorem witness_FrameEnd :
    (Running draining ∧ draining.ctrl.walker = .draining ∧ (∀ n : Fin 4, (draining.lanes[n]).items = []) ∧
      draining.ctrl.stopPending = false ∧ draining.ctrl.deferred = false ∧ draining.meetings = []) ∧
    (let s := { draining with ctrl := { draining.ctrl with stopPending := true }, meetings := [meeting] }
     Running s ∧ s.ctrl.walker = .draining ∧ (∀ n : Fin 4, (s.lanes[n]).items = []) ∧
       meeting = s.meetings.headD Meeting.nothing) ∧
    (let s := { draining with ctrl := { draining.ctrl with deferred := true } }
     s.ctrl.stopPending = false ∧ s.ctrl.deferred = true) ∧
    (Running waiting ∧ waiting.ctrl.walker ≠ .draining) := by
  refine ⟨⟨rfl, rfl, by decide, rfl, rfl, rfl⟩, ⟨rfl, rfl, by decide, rfl⟩, ⟨rfl, rfl⟩, rfl, by decide⟩

theorem witness_Tick :
    (Running waiting ∧ waiting.timer.counting = false) ∧
    ((counting .periodic 2).timer.counting = true ∧ (counting .periodic 2).timer.count ≠ 0) ∧
    ((counting .oneShot 1).timer.counting = true ∧ (counting .oneShot 1).timer.count = 1) ∧
    (let s := closing false false
     Running s ∧ (s.timer.counting = true ∧ s.timer.count = 1) ∧ pauseReached 0 (takeTick s) = true ∧
       (∃ t, exec .heldQueueRelease s = .next t) ∧ ∃ t, exec .frameEnd s = .next t) ∧
    ((∀ m : Fin 4, (draining.lanes[m]).items = []) ∧ draining.ctrl.walker = .draining ∧
      ∃ met rest, ({ draining with meetings := [meeting] } : State).meetings = met :: rest ∧
        met.endsAgain = true) ∧
    (let s := device .active .draining (laneWith (.readyWait (item .write) 99)) []
     (s.lanes[(0 : Fin 4)]).phase = .readyWait (item .write) 99 ∧ timeoutReached 0 (takeTick s) = true ∧
       timeoutReached 1 (takeTick s) = false) ∧
    (let s := device .active .draining (laneWith (.pausing (item .pause) 0)) []
     (s.lanes[(0 : Fin 4)]).phase = .pausing (item .pause) 0 ∧ pauseReached 0 (takeTick s) = true) ∧
    (gateState (.completed 0)).lanes[(0 : Fin 4)].phase = .gap (item .gate) (.completed 0) ∧
    (((working (.readyWait (item .write) 0) []).lanes[(0 : Fin 4)]).phase = .readyWait (item .write) 0 ∧
      1 < ((working (.readyWait (item .write) 0) []).lanes[(0 : Fin 4)]).cfg.readyTimeout.toNat ∧
      (1 : BitVec 12).toNat ≤ 1 ∧ (item .pause).duration.toNat ≤ 1 ∧
      ((working (.pausing (item .pause) 0) []).lanes[(0 : Fin 4)]).phase = .pausing (item .pause) 0 ∧
      1 < ({ item .pause with duration := 2 } : Item).duration.toNat) := by
  refine ⟨⟨rfl, rfl⟩, ⟨rfl, by decide⟩, ⟨rfl, rfl⟩, ⟨rfl, ⟨rfl, rfl⟩, by decide, ⟨_, rfl⟩, _, rfl⟩,
    ⟨by decide, rfl, _, _, rfl, rfl⟩,
    ⟨rfl, by decide, by decide⟩, ⟨rfl, by decide⟩, rfl, rfl, by decide, by decide, by decide, rfl, by decide⟩

theorem witness_TimerExpiry :
    (let s := counting .periodic 1
     Running s ∧ s.timer.counting = true ∧ s.timer.count = 1 ∧ WaitsGoOn (fun _ => False) s ∧
       s.timer.mode = .periodic) ∧
    (counting .oneShot 1).timer.mode = .oneShot ∧
    (Running waiting ∧ waiting.timer.counting = false) ∧ (counting .periodic 2).timer.count ≠ 1 := by
  refine ⟨⟨rfl, rfl, rfl, fun m _ => ?_, rfl⟩, rfl, ⟨rfl, rfl⟩, by decide⟩
  match m with
  | 0 | 1 | 2 | 3 => exact ⟨fun _ _ h => (by cases h), fun _ _ h => by cases h⟩

theorem witness_FtrigEdge :
    (let s := { waiting with timer := { State.reset.timer with mode := .external } }
     Running s ∧ s.timer.mode = .external ∧ s.timer.ftrig = s.timer.fallingEdge ∧
       true = !s.timer.fallingEdge) ∧
    (Running waiting ∧ waiting.timer.mode ≠ .external) ∧ State.reset.ctrl.state = .stopped := by
  refine ⟨⟨rfl, rfl, rfl, rfl⟩, ⟨rfl, by decide⟩, rfl⟩

theorem witness_TimerRegisters :
    (Running State.reset ∧ 1 ≤ (1 : Word).toNat ∧ (4096 : Word).toNat ≤ 4096) ∧
    ((0 : Word).toNat = 0 ∧ 4097 ≤ (4097 : Word).toNat) ∧
    State.reset.timer.counting = false ∧
    ((counting .periodic 9).timer.counting = true ∧ (1 : Word) ≠ 0) ∧
    ((6 : Word).toNat % 4 = TimerMode.oneShot.code.toNat ∧ State.reset.ctrl.state = .stopped) ∧
    ((8 : Word).toNat % 4 = waiting.timer.mode.code.toNat ∧ waiting.ctrl.state ≠ .stopped ∧
      (8 : Word).getLsbD 2 = waiting.timer.fallingEdge) ∧
    ((1 : Word).toNat % 4 = TimerMode.periodic.code.toNat ∧ TimerMode.periodic ≠ waiting.timer.mode) := by
  refine ⟨⟨rfl, ?_⟩, ?_⟩ <;> decide

theorem witness_ReadySeen :
    let l (r : ReadyInput) : Lane :=
      { laneWith (.readyWait (item .write) 0) with cfg := { idleLane.cfg with ready := r } }
    let s (r : ReadyInput) := device .active .draining (l r) []
    Running (s .activeHigh) ∧ ((s .activeHigh).lanes[(0 : Fin 4)]).phase = .readyWait (item .write) 0 ∧
      ((s .activeHigh).lanes[(0 : Fin 4)]).cfg.ready = .activeHigh ∧
      ((s .activeLow).lanes[(0 : Fin 4)]).cfg.ready = .activeLow := ⟨rfl, rfl, rfl, rfl⟩

theorem witness_ShiftEnd :
    let l : Lane := { laneWith (.shifting (item .exchange)) with
      cfg := { idleLane.cfg with responseCheck := true } }
    let s := device .active .draining l []
    Running s ∧ (s.lanes[(0 : Fin 4)]).phase = .shifting (item .exchange) ∧
    (item .exchange).inLen.toNat ≤ 32 ∧ (item .exchange).outLen.toNat ≤ 32 ∧
    8 ≤ (item .exchange).inLen.toNat ∧ (s.lanes[(0 : Fin 4)]).cfg.responseCheck = true ∧
    (∀ j < 8, (0xFF00 : BitVec 64).getLsbD (8 + (8 - 1 - j)) = true) ∧
    wireItem.inLen.toNat < 8 ∧ (s.lanes[(0 : Fin 4)]).cfg.gap = 0 ∧ (255 : Byte) ≠ 0 := by
  refine ⟨rfl, rfl, by decide, by decide, by decide, rfl, by decide, by decide, rfl, by decide⟩

theorem witness_LaneOutputs :
    Lane.powerOn.phase = .disabled ∧ (idleLane.phase ≠ .disabled ∧ ∀ it, idleLane.phase ≠ .shifting it) ∧
    ((laneWith (.shifting wireItem)).phase = .shifting wireItem ∧
      7 = wireItem.outLen.toNat + wireItem.inLen.toNat) ∧
    (Running draining ∧ draining.ctrl.state = .active ∧
      ∃ t, exec .abort draining = .next t ∧ (t.lanes[(0 : Fin 4)]).phase ≠ .disabled) :=
  ⟨rfl, ⟨by decide, fun _ h => (by cases h)⟩, ⟨rfl, by decide⟩, rfl, rfl, _, rfl, by decide⟩

theorem witness_ItemEnds :
    (let s := working (.gap (item .exchange) (.completed 5)) []
     Running s ∧ AtRest s ∧ EndsWith 0 s (item .exchange) (.completed 5) (.gapEnd 0) s [] ∧
       (item .exchange).kind ≠ .gate ∧ (s.lanes[(0 : Fin 4)]).queue = []) ∧
    (let s := working (.readyWait (item .write) 99) [item .pause]
     Running s ∧ AtRest s ∧
       EndsWith 0 s (item .write) (.fault .readyTimeout) (.readyTimeout 0) (takeTick s) [] ∧
       (s.lanes[(0 : Fin 4)]).cfg.haltOnFault = false ∧
       (s.lanes[(0 : Fin 4)]).queue = item .pause :: []) ∧
    (let s := working (.pausing (item .pause) 0) []
     EndsWith 0 s (item .pause) (.completed 0) .tick (takeTick s) []) ∧
    (let s := working (.shifting (item .write)) []
     EndsWith 0 s (item .write) (shiftOutcome (s.lanes[(0 : Fin 4)]).cfg (item .write) 0) (.shiftEnd 0 0) s []) :=
  ⟨⟨rfl, working_rests _ _, .inl ⟨rfl, rfl, rfl, rfl⟩, by decide, rfl⟩,
    ⟨rfl, working_rests _ _,
      .inr (.inr (.inl ⟨99, rfl, by decide, rfl, .inl rfl, working_waits _ _, rfl, rfl⟩)), rfl, rfl⟩,
    .inr (.inr (.inr ⟨0, rfl, by decide, rfl, .inr rfl, working_waits _ _, rfl, rfl⟩)),
    .inr (.inl ⟨0, rfl, rfl, rfl, rfl, rfl, rfl⟩)⟩

/-- Lane 0 at the end of a gap that ends in a fault under HALT. -/
def halting (q : List Item) : Lane :=
  { laneWith (.gap (item .exchange) (.fault .stuckResponse)) with
    cfg := { idleLane.cfg with haltOnFault := true }, queue := q }

theorem witness_HaltingFault :
    (let s := device .active .draining (halting [item .write, item .gate]) []
     Running s ∧ AtRest s ∧ EndsWith 0 s (item .exchange) (.fault .stuckResponse) (.gapEnd 0) s [] ∧
       (item .exchange).kind ≠ .gate ∧ (s.lanes[(0 : Fin 4)]).cfg.haltOnFault = true ∧
       s.ctrl.walker ≠ .heldGate) ∧
    (∀ x ∈ (halting [item .write, item .pause]).queue, x.kind ≠ .gate) ∧
    (let d := device .active .heldGate (halting [item .write, item .gate]) schedule
     let s := { d with ctrl := { d.ctrl with position := 2 } }
     Running s ∧ AtRest s ∧ EndsWith 0 s (item .exchange) (.fault .stuckResponse) (.gapEnd 0) s [] ∧
       (s.lanes[(0 : Fin 4)]).queue = [item .write] ++ [item .gate] ∧
       (∀ x ∈ [item .write], x.kind ≠ .gate) ∧ s.ctrl.walker = .heldGate ∧
       s.ctrl.position = (item .gate).index) := by
  refine ⟨⟨rfl, ?_, .inl ⟨rfl, rfl, rfl, rfl⟩, by decide, rfl, by decide⟩, by decide,
    rfl, ?_, .inl ⟨rfl, rfl, rfl, rfl⟩, rfl, by decide, rfl, rfl⟩ <;> (intro h; cases h)

theorem witness_GateJudged :
    (let s := gateState (.completed 0x80)
     Running s ∧ EndsWith 0 s (item .gate) (.completed 0x80) (.gapEnd 0) s [] ∧ (item .gate).kind = .gate ∧
     (s.lanes[(0 : Fin 4)]).queue = [] ∧ s.ctrl.walker = .heldGate ∧
     s.ctrl.position = (item .gate).index ∧
     (0x80 : Value) &&& ((activeBank s)[(item .gate).index]).gateMask =
       ((activeBank s)[(item .gate).index]).gateMatch &&&
         ((activeBank s)[(item .gate).index]).gateMask) ∧
    (let s := gateState (.completed 0x7F)
     EndsWith 0 s (item .gate) (.completed 0x7F) (.gapEnd 0) s [] ∧
     (0x7F : Value) &&& ((activeBank s)[(item .gate).index]).gateMask ≠
       ((activeBank s)[(item .gate).index]).gateMatch &&&
         ((activeBank s)[(item .gate).index]).gateMask) ∧
    (let s := gateState (.fault .stuckResponse)
     EndsWith 0 s (item .gate) (.fault .stuckResponse) (.gapEnd 0) s []) ∧
    (working (.gap (item .gate) (.completed 0)) []).ctrl.walker = .draining := by
  refine ⟨⟨rfl, .inl ⟨rfl, rfl, rfl, rfl⟩, rfl, rfl, rfl, rfl, by decide⟩, ⟨.inl ⟨rfl, rfl, rfl, rfl⟩, by decide⟩,
    .inl ⟨rfl, rfl, rfl, rfl⟩, rfl⟩

theorem witness_CompletionReachesItsReceivers :
    active.ctrl.walker ≠ .heldGate ∧ (item .exchange).kind = .exchange ∧ (item .gate).kind ≠ .exchange ∧
    (let old : Slot := { Slot.cleared with status := .fresh }
     let cfg : SlotConfig := { SlotConfig.powerOn with watch := true }
     true = true ↔ cfg.watch = true ∧ old.status = .fresh) ∧
    (let verdict := evaluateLimit slot9 .high 940
     true = true ↔ verdict.2 = .high ∧ slot9.highAlert = true ∨
       verdict.2 = .low ∧ slot9.lowAlert = true ∨ verdict.2 = .back ∧ slot9.returnAlert = true) := by
  decide

theorem witness_ExtractionTakesTheField :
    1 ≤ 1 ∧ 31 + 1 ≤ 32 ∧ 0 + 32 ≤ 32 ∧ (item .exchange).kind = .exchange := by decide

theorem witness_LimitEvaluation :
    (item .exchange).kind = .exchange ∧
    SlotConfig.powerOn.limitEnable = false ∧ slot9.limitEnable = true ∧
    slot9.high.toInt < (1001 : Value).toInt ∧ (1000 : Value).toInt ≤ slot9.high.toInt ∧
    (-1 : Value).toInt < slot9.low.toInt ∧ slot9.low.toInt ≤ (0 : Value).toInt ∧
    (950 : Value).toInt ≤ max (slot9.high.toInt - slot9.hysteresis.toInt) (-2147483648) ∧
    max (slot9.high.toInt - slot9.hysteresis.toInt) (-2147483648) < (951 : Value).toInt ∧
    min (slot9.low.toInt + slot9.hysteresis.toInt) 2147483647 ≤ (50 : Value).toInt ∧
    (49 : Value).toInt < min (slot9.low.toInt + slot9.hysteresis.toInt) 2147483647 := by decide

theorem witness_HeldQueueRelease :
    let s (l : Lane) := device .active .heldQueue l [exchangeEntry]
    (Running (s nearlyFullLane) ∧ (s nearlyFullLane).ctrl.walker = .heldQueue ∧
      exchangeEntry = (activeBank (s nearlyFullLane))[(s nearlyFullLane).ctrl.position] ∧
      exchangeEntry.itemKind = some .exchange ∧
      ((s nearlyFullLane).lanes[exchangeEntry.lane]).phase.item ≠ none ∧
      ((s nearlyFullLane).lanes[exchangeEntry.lane]).queue.length < 4) ∧
    (((s (laneWith .halted)).lanes[exchangeEntry.lane]).phase = .halted ∧
      ((s (laneWith .halted)).lanes[exchangeEntry.lane]).queue = []) ∧
    ((s idleLane).lanes[exchangeEntry.lane]).phase = .idle ∧
    4 ≤ ((s fullLane).lanes[exchangeEntry.lane]).queue.length := by
  refine ⟨⟨rfl, rfl, by decide, by decide, by decide, by decide⟩, by decide, by decide, by decide⟩

theorem witness_ItemReachesItsLane :
    (idleLane.phase = .idle ∧ idleLane.queue = []) ∧ nearlyFullLane.phase.item ≠ none ∧
    ((laneWith .halted).phase = .halted ∧ (laneWith .halted).queue = [] ∧ (item .write).kind ≠ .gate) ∧
    ((gateState (.completed 0)).ctrl.walker = .heldGate ∧
      (gateState (.completed 0)).ctrl.position = (item .gate).index ∧ (item .gate).kind = .gate) := by
  decide

theorem witness_EvClaim :
    Running nested ∧ isEligible nested 1 = true ∧
    (∀ m, isEligible nested m = true →
      (nested.events.sources[m]).level.toNat ≤ (nested.events.sources[(1 : Fin 16)]).level.toNat ∧
      ((nested.events.sources[m]).level = (nested.events.sources[(1 : Fin 16)]).level → 1 ≤ m)) ∧
    ∀ n, isEligible State.reset n = false := by
  refine ⟨rfl, by decide, by decide, by decide⟩

theorem witness_EvDone :
    (Running State.reset ∧ State.reset.events.stack = []) ∧
    (nested.events.stack = { source := 5, level := 2 } :: [] ∧ (4 : Word).toNat ≠ (5 : Fin 16).val ∧
      (0xFF : Word).toNat ≠ (5 : Fin 16).val ∧ (5 : Word).toNat = (5 : Fin 16).val) := by
  refine ⟨⟨rfl, rfl⟩, rfl, by decide, by decide, by decide⟩

theorem witness_EvRaise :
    Running nested ∧ (nested.events.sources[(0 : Fin 16)]).masked = true ∧
      (nested.events.sources[(1 : Fin 16)]).masked = false := by
  refine ⟨rfl, by decide, by decide⟩

theorem witness_EvThreshold :
    let s := { nested with events := { nested.events with threshold := 7 } }
    Running s ∧ s.events.threshold = 7 := ⟨rfl, rfl⟩

theorem witness_IrqLine :
    (3 : Fin 16) ≠ 8 ∧ resetHeld.inReset = true ∧ (Running nested ∧ nested.events.irqActiveHigh = false) ∧
    (let s := { nested with events := { nested.events with irqActiveHigh := true } }
     Running s ∧ s.events.irqActiveHigh = true) := by
  refine ⟨by decide, rfl, ⟨rfl, rfl⟩, rfl, rfl⟩

/-- An alert queue with `n` records from serial 7 on. -/
def queueOf (n : Nat) : AlertQueue :=
  { AlertQueue.afterReset with
    records := (List.range n).map fun k => AlertRecord.emptyMarker (BitVec.ofNat 8 (7 + k))
    nextSerial := BitVec.ofNat 8 (7 + n) }

theorem witness_Acknowledgements :
    (Running asking ∧ (255 : Word).toNat ≤ 255 ∧ asking.alerts.records = []) ∧
    ((queueOf 1).records = AlertRecord.emptyMarker 7 :: [] ∧
      (AlertRecord.emptyMarker 7).serial.toNat = (7 : Word).toNat ∧
      (AlertRecord.emptyMarker 7).serial.toNat ≠ (8 : Word).toNat) ∧
    256 ≤ (256 : Word).toNat ∧
    (asking.mirror.transaction = .request ∧ asking.mirror.agrees 0x41 7 = true) := by
  refine ⟨⟨rfl, ?_⟩, ?_⟩ <;> decide

theorem witness_AlertPeekAndPost :
    (Running State.reset ∧ State.reset.alerts.records = []) ∧
    (∃ rest, (queueOf 2).records = AlertRecord.emptyMarker 7 :: rest) ∧
    (queueOf 15).records.length < 16 ∧ 16 ≤ (queueOf 16).records.length := by
  refine ⟨⟨rfl, rfl⟩, ⟨[AlertRecord.emptyMarker 8], rfl⟩, by decide, by decide⟩

theorem witness_SampleSelect :
    Running active ∧ (0 : Byte).toNat = (0 : Fin 64).val ∧ (63 : Byte).toNat = (63 : Fin 64).val ∧
      64 ≤ (64 : Byte).toNat ∧ 64 ≤ (255 : Byte).toNat := by
  refine ⟨rfl, ?_⟩; decide

theorem witness_TableDataRead :
    (let s := withTable .latches 7 State.reset
     Running s ∧ s.window.tableAddr.toNat < wordsOf s.window.tableSel ∧
       ¬ (s.window.tableSel = .latches ∧ s.window.tableAddr = 2)) ∧
    (let s := withTable .latches 2 State.reset
     s.window.tableSel = .latches ∧ s.window.tableAddr = 2) ∧
    (let s := withTable .staged 512 State.reset
     wordsOf s.window.tableSel ≤ s.window.tableAddr.toNat) ∧
    (∀ count ∈ [64, State.reset.ctrl.last.due], count ≤ 64) ∧
    (let s := after (.evDone 0) State.reset
     s.window.accessError ≠ none ∧ s.mirror.error = none ∧ s.ctrl.schedError = none) ∧
    (after .mselDeassert asking).mirror.error = some { error := .incomplete, command := none } ∧
    ((after .trigger (device .waiting .idle Lane.powerOn schedule)).ctrl.schedError =
      some { frame := 1, index := 0, reason := .laneDisabled }) := by
  refine ⟨⟨rfl, ?_⟩, ?_⟩ <;> decide

theorem witness_RegisterWords :
    (∃ r, (after (.evDone 0) State.reset).window.accessError = some r) ∧
    State.reset.window.accessError = none ∧
    (let s := withTable .staged 511 State.reset
     s.window.tableAddr.toNat < wordsOf s.window.tableSel) ∧
    wordsOf (withTable .latches 8 State.reset).window.tableSel ≤
      (withTable .latches 8 State.reset).window.tableAddr.toNat ∧
    (queueOf 16).records.length ≤ 16 ∧ State.reset.events.stack = [] ∧
    (∃ top rest, nested.events.stack = top :: rest ∧ rest.length ≤ 6) ∧
    resetHeld.inReset = true ∧ Running nested ∧
    (Instr.evClaim, 0x18#5) ∈ [(Instr.evClaim, 0x18#5), (.hostAlertPeek, 0x13#5)] := by
  refine ⟨⟨_, rfl⟩, rfl, by decide, by decide, by decide, rfl, ⟨_, _, rfl, by decide⟩, rfl, rfl, by simp⟩

theorem witness_StagedBankWrite :
    (let s := withTable .staged 511 active
     Running s ∧ s.window.tableSel = .staged ∧ s.window.tableAddr.toNat < 512 ∧
       s.ctrl.commitPending = false) ∧
    (let s := withTable .staged 0 { active with ctrl := { active.ctrl with commitPending := true } }
     s.window.tableAddr.toNat < 512 ∧ s.ctrl.commitPending = true) ∧
    (withTable .active 0 active).window.tableSel = .active ∧
    512 ≤ (withTable .staged 512 active).window.tableAddr.toNat ∧
    isMirrorRow .mselDeassert = true ∧ (511 : Word).toNat = 8 * (63 : Fin 64).val + (7 : Fin 8).val := by
  refine ⟨⟨rfl, ?_⟩, ?_⟩ <;> decide

theorem witness_SlotAndSourceConfigWrite :
    (let s := withTable .slotConfig 511 active
     Running s ∧ s.window.tableSel = .slotConfig ∧
       s.window.tableAddr.toNat = 8 * (63 : Fin 64).val + 7) ∧
    ((0x7FFF : Word).toNat < 32768 ∧ 32768 ≤ (0x8000 : Word).toNat ∧
      (withTable .slotConfig 5 active).window.tableAddr.toNat = 8 * (0 : Fin 64).val + 5) ∧
    (let s := withTable .sourceConfig 15 active
     s.window.tableSel = .sourceConfig ∧ s.window.tableAddr.toNat = (15 : Fin 16).val) ∧
    ((0x0070 : Word).toNat / 16 % 8 ≠ 0 ∧ (0xFF8F : Word).toNat / 16 % 8 = 0) ∧
    512 ≤ (withTable .slotConfig 512 active).window.tableAddr.toNat ∧
    16 ≤ (withTable .sourceConfig 16 active).window.tableAddr.toNat := by
  refine ⟨⟨rfl, ?_⟩, ?_⟩ <;> decide

theorem witness_LaneConfigWrite :
    (let s := withTable .laneConfig 15 waiting
     Running s ∧ s.window.tableSel = .laneConfig ∧
       s.window.tableAddr.toNat = 4 * (3 : Fin 4).val + 3 ∧ s.ctrl.state ≠ .stopped) ∧
    State.reset.ctrl.state = .stopped ∧
    ((0x0300 : Word).toNat / 256 % 4 = 3 ∧ (0xF000 : Word).toNat % 4096 = 0) ∧
    (1024 < (0x8402 : Word).toNat % 2048 ∧ (0x8003 : Word).toNat % 2 = 1) ∧
    (0x0200 : Word).toNat / 256 % 4 = ReadyInput.activeLow.code.toNat ∧
    (2 ≤ (0x8002 : Word).toNat % 2048 ∧ (0x8400 : Word).toNat % 2048 ≤ 1024 ∧
      (0x8002 : Word).getLsbD 15 = true ∧ Lane.powerOn.cfg.enable = false) ∧
    16 ≤ (withTable .laneConfig 16 waiting).window.tableAddr.toNat := by
  refine ⟨⟨rfl, ?_⟩, ?_⟩ <;> decide

theorem witness_TableSelectorAndAddress :
    Running State.reset ∧ ((6 : Word).toNat, Table.latches) ∈ [(0, Table.staged), (6, .latches)] ∧
      7 ≤ (7 : Word).toNat ∧ Instr.start ≠ .powerOnReset := by
  refine ⟨rfl, ?_⟩; decide

theorem witness_AccessErrors :
    State.reset.window.accessError = none ∧
    (refuseWrite .badValue 0x08 State.reset).window.accessError ≠ none ∧ Running State.reset := by
  refine ⟨rfl, by decide, rfl⟩

theorem witness_RegisterWrite :
    Running State.reset ∧ (0x1F : BitVec 5) ∈ [0x00#5, 0x1F#5] ∧
    (let s := withTable .reports 15 State.reset
     s.window.tableSel = .reports ∧ s.window.tableAddr.toNat < wordsOf s.window.tableSel) := by
  refine ⟨rfl, ?_⟩; decide

theorem witness_Selections :
    (Running State.reset ∧ State.reset.mirror.mselAsserted = false ∧
      State.reset.mirror.cfg.enable = false) ∧
    (let s := withMirror { Mirror.powerOn with cfg := { enable := true, clockMode := 3 } }
     s.mirror.mselAsserted = false ∧ s.mirror.cfg.enable = true) ∧
    (asking.mirror.mselAsserted = true ∧ asking.mirror.transaction = .request ∧
      asking.mirror.bitCount < 8) ∧
    (let m := { asking.mirror with bitCount := 8, command := 0x21 }
     m.transaction = .request ∧ 8 ≤ m.bitCount) ∧
    (let m := { asking.mirror with transaction := .response }
     m.mselAsserted = true ∧ m.transaction ≠ .request) := by
  refine ⟨⟨rfl, ?_⟩, ?_⟩ <;> decide

theorem witness_MirrorRequests :
    (Running asking ∧ asking.mirror.transaction = .request ∧ asking.mirror.agrees 0x21 63 = true ∧
      asking.mirror.agrees 0x22 64 = true ∧ (63 : Byte).toNat = (63 : Fin 64).val ∧
      64 ≤ (64 : Byte).toNat) ∧
    (let m := { asking.mirror with bitCount := 15, command := 0x22, argument := 31 }
     m.agrees 0x22 63 = true) ∧
    (let m := { asking.mirror with transaction := .response, command := 0x22, argument := 63, records := 1 }
     m.transaction = .response ∧ m.command = 0x22 ∧ m.status = .ok ∧
       (0 : Fin 64).val = (m.argument.toNat + m.records) % 64) ∧
    (asking.mirror.agrees 0x30 0 = true ∧ asking.mirror.agrees 0x40 0 = true ∧
      asking.alerts.records = []) ∧
    ((0x20 : Byte) ∉ [0x21#8, 0x22#8, 0x30#8, 0x40#8, 0x41#8, 0x50#8] ∧
      asking.mirror.agrees 0x20 0 = true) := by
  refine ⟨⟨rfl, ?_⟩, ?_⟩ <;> decide

theorem witness_NoteMailbox :
    Running asking ∧ asking.mirror.transaction = .request ∧ asking.mirror.agrees 0x50 0xFF = true := by
  refine ⟨rfl, ?_⟩; decide

theorem witness_MclkEdge :
    (Running State.reset ∧ State.reset.mirror.transaction = .idle) ∧
    (let m := { asking.mirror with mclk := true }
     m.transaction = .request ∧ false ≠ m.mclk ∧ false = m.inForce.clockMode.getLsbD 1 ∧
       m.inPeriod = false) ∧
    (let m := { asking.mirror with transaction := .response, status := .refused, command := 0x22 }
     m.transaction = .response ∧ m.status ≠ .ok ∧ true ≠ m.mclk ∧
       true ≠ m.inForce.clockMode.getLsbD 1 ∧ m.inForce.clockMode.getLsbD 0 = false) ∧
    (let m := { asking.mirror with
       transaction := .response, command := 0x30, mclk := true, inPeriod := true
       inForce := { enable := true, clockMode := 1 } }
     m.command ≠ 0x22 ∧ false ≠ m.mclk ∧ false = m.inForce.clockMode.getLsbD 1 ∧ m.inPeriod = true ∧
       m.inForce.clockMode.getLsbD 0 = true) ∧
    (let m := { asking.mirror with
       transaction := .response, command := 0x22, records := 1, mclk := true, inPeriod := true, bitCount := 95 }
     m.transaction = .response ∧ false ≠ m.mclk ∧ false = m.inForce.clockMode.getLsbD 1 ∧
       m.inForce.clockMode.getLsbD 0 = false ∧
       ¬ (m.command = 0x22 ∧ m.status = .ok ∧ m.bitCount = 32 + 64 * m.records)) ∧
    (let m := { asking.mirror with bitCount := 6 }
     m.transaction = .request ∧ m.bitCount < 7 ∧ true ≠ m.mclk) := by
  refine ⟨⟨rfl, ?_⟩, ?_⟩ <;> decide

theorem witness_ResponseBytes :
    asking.mirror.status = .ok ∧ ({ asking.mirror with status := .stale } : Mirror).status ≠ .ok ∧
    ({ asking.mirror with command := 0x22 } : Mirror).command = 0x22 ∧
    (stateRecord asking).alertCount ≤ 16 := by decide

theorem witness_MirrorRowsAreTheirSamples :
    (Running asking ∧ requestOf (.readSlot 63) = some (0x21, 63) ∧ asking.mirror.transaction = .request ∧
      asking.mirror.bitCount = 0 ∧ asking.mirror.command = 0 ∧ asking.mirror.inPeriod = false ∧
      asking.mirror.mclk = idleLevel asking.mirror.inForce.clockMode) ∧
    (let m := { asking.mirror with
       transaction := .response, command := 0x22, argument := 63, records := 2, bitCount := 159 }
     m.transaction = .response ∧ m.command = 0x22 ∧ m.status = .ok ∧ m.inPeriod = false ∧
       m.mclk = idleLevel m.inForce.clockMode ∧ m.bitCount < 32 + 64 * m.records ∧
       m.bitCount + [true].length = 32 + 64 * m.records) := by
  refine ⟨⟨rfl, ?_⟩, ?_⟩ <;> decide

theorem witness_EventsLeaveSettingsAlone :
    (∃ t, exec .frameEnd active = .next t) ∧ isInnerEvent .frameEnd = true ∧
    (∃ t, exec .readState asking = .next t) ∧ isMirrorRow .readState = true ∧
    (Instr.readState ≠ .frameEnd ∧ Instr.readState ≠ .tick ∧ Instr.readState ≠ .timerExpiry ∧
      ∀ n, Instr.readState ≠ .readyTimeout n ∧ Instr.readState ≠ .pauseExpiry n) ∧
    (∀ m ∈ active.meetings, m.afterFrameEnd = [] ∧ m.afterSwap = []) :=
  ⟨⟨_, rfl⟩, rfl, ⟨_, rfl⟩, rfl, ⟨by decide, by decide, by decide, by decide⟩, fun _ h => by cases h⟩

/-! ### A legal state in ACTIVE for the invariants -/

/-- Frame 12 of the schedule of 10.8: the walker holds for the gate e2, which lane 0 is shifting, READ_RUN
is being answered, one source is in service, one alert waits, and the gate's gap end is the next command. -/
def busy : State :=
  let s := gateState (.completed 0x80)
  { s with
    ctrl := { s.ctrl with current := {
      frame := 12, outcome := .inProgress, due := 3, issued := 3, completed := 2, faulted := 0
      laneSkipped := 0, aborted := 0, gateSkipped := 0, rejected := 0 } }
    alerts := queueOf 1
    samples := s.samples.setSlot 4 { Slot.cleared with status := .fault, faultKind := some .readyTimeout }
    events := nested.events
    mirror := { asking.mirror with transaction := .response, command := 0x22, status := .ok }
    pending := [.gapEnd 0] }

theorem busy_steps : ∃ t, step busy = .next t := ⟨_, rfl⟩

theorem busy_modes : ModesLegal busy where
  rest := by unfold AtRest; decide
  stopped := by decide
  waiting := by decide
  active := by decide
  aborting := by decide
  counting := by decide

theorem witness_StepKeepsModesLegal : ModesLegal busy ∧ ∃ t, step busy = .next t :=
  ⟨busy_modes, busy_steps⟩

theorem witness_StepKeepsBanksLegal :
    BanksLegal { State.reset with pending := [.commit] } ∧
      ∃ t, step { State.reset with pending := [.commit] } = .next t :=
  ⟨⟨blankBank_sound, fun h => absurd h (by decide)⟩, _, rfl⟩

theorem busy_lane (n : Fin 4) : LaneLegal busy.lanes[n] := by
  match n with
  | 0 | 1 | 2 | 3 => exact ⟨by decide, by decide, by decide, by decide, by decide⟩

theorem witness_StepKeepsLanesLegal : LanesLegal busy ∧ ∃ t, step busy = .next t :=
  ⟨⟨busy_modes, busy_lane, fun h => absurd h (by decide)⟩, busy_steps⟩

theorem witness_StepKeepsFrameLegal : FrameLegal busy ∧ ∃ t, step busy = .next t := by
  refine ⟨⟨busy_modes, ?_, ?_, ?_, ?_, ?_, ?_, fun n it k => ?_, fun n it k => ?_⟩, busy_steps⟩
  iterate 6 decide
  all_goals match n with | 0 | 1 | 2 | 3 => exact fun h => by cases h

theorem busy_slot (i : Fin 64) : SlotLegal busy.samples.slots[i] := by
  by_cases h : i = 4
  · subst h; exact ⟨by decide, by decide⟩
  · have hs : busy.samples.slots[i] = Slot.cleared := by
      have h' : (4 : Nat) ≠ i.val := fun e => h (Fin.ext e.symm)
      simp [busy, gateState, device, State.reset, SampleTable.afterReset, SampleTable.setSlot,
        h']
    rw [hs]; exact ⟨by decide, by decide⟩

theorem witness_StepKeepsSlotsLegal : SlotsLegal busy ∧ ∃ t, step busy = .next t :=
  ⟨⟨busy_slot, by decide⟩, busy_steps⟩

theorem witness_StepKeepsAlertsLegal : AlertsLegal busy ∧ ∃ t, step busy = .next t :=
  ⟨⟨by decide, by decide⟩, busy_steps⟩

theorem witness_StepKeepsServiceLegal : ServiceLegal busy ∧ ∃ t, step busy = .next t :=
  ⟨⟨by decide, by decide, by decide, by decide⟩, busy_steps⟩

theorem witness_StepKeepsMirrorLegal : MirrorLegal busy ∧ ∃ t, step busy = .next t :=
  ⟨⟨by decide, by decide, by decide, by decide⟩, busy_steps⟩

end Sys2Proof.Tests
end

section
/-! Proofs about run control: what a command is out of power-on reset, and CANCEL_COMMIT. -/

namespace Sys2Proof.Machine

/-! ### Steps out of power-on reset -/

/-- Out of power-on reset a step takes its effect (R159, R180). -/
theorem running_eq_next {s : State} (h : Running s) (f : State → State) :
    running f s = .next (f s) := by
  have hr : s.inReset = false := h
  simp [running, whenRunning, hr]

theorem exec_cancelCommit {s : State} (h : Running s) :
    exec .cancelCommit s = .next (commandCancelCommit s) :=
  running_eq_next h commandCancelCommit

theorem exec_stagedBankWrite {s : State} (h : Running s) (v : Word) :
    exec (.stagedBankWrite v) s = .next (writeTableData v s) :=
  running_eq_next h (writeTableData v)

/-! ### A write through selector 0 -/

/-- With no commit pending the staged bank takes a write of any of its 512 words (R13, R164). -/
theorem writeTableData_staged_editable {s : State} (hsel : s.window.tableSel = .staged)
    (haddr : s.window.tableAddr.toNat < 512) (hpend : s.ctrl.commitPending = false) (v : Word) :
    writeTableData v s =
      advanceTable (setStagedBank ((stagedBank s).setWord s.window.tableAddr v) s) := by
  have hrange : tableInRange s = true := by simp [tableInRange, hsel, Table.size, haddr]
  have hwrite : writeTableData v s = writeStaged v s := by simp [writeTableData, hrange, hsel]
  rw [hwrite]
  simp [writeStaged, hpend]

/-! ### CANCEL_COMMIT (R18) -/

@[simp] theorem commandCancelCommit_commitPending (s : State) :
    (commandCancelCommit s).ctrl.commitPending = false := rfl

@[simp] theorem commandCancelCommit_tableSel (s : State) :
    (commandCancelCommit s).window.tableSel = s.window.tableSel := rfl

@[simp] theorem commandCancelCommit_tableAddr (s : State) :
    (commandCancelCommit s).window.tableAddr = s.window.tableAddr := rfl

/-- The selector and both banks stay, so the staged bank still holds what was committed (R18). -/
@[simp] theorem commandCancelCommit_stagedBank (s : State) :
    stagedBank (commandCancelCommit s) = stagedBank s := rfl

theorem commandCancelCommit_running {s : State} (h : Running s) : Running (commandCancelCommit s) := h

/-- Settles O9: the state after the command is `commandCancelCommit s`, and no commit is pending there, so
the write through selector 0 that follows finds the staged bank editable. -/
theorem cancelCommit : Obligations.CancelCommit := by
  intro s hs
  refine ⟨commandCancelCommit s, exec_cancelCommit hs, rfl, commandCancelCommit_stagedBank s, ?_⟩
  intro hsel haddr v
  rw [exec_stagedBankWrite (commandCancelCommit_running hs),
    writeTableData_staged_editable (by simpa using hsel) (by simpa using haddr) (by simp)]
  simp

end Sys2Proof.Machine
end

section
/-! Proofs about SHIFT_END: the bits of a response, the response check, and the entry to GAP. -/

namespace Sys2Proof.Machine

/-! ### The bits of a response (R60, R64) -/

/-- After the command bits a loopback lane captures the fill bit that it sends, any other lane LnDI. -/
theorem capturedBit_after_command (c : LaneConfig) (it : Item) (din : BitVec 64) {k : Nat}
    (hk : it.outLen.toNat < k) :
    capturedBit c it din k = if c.loopback then c.fillBit else din.getLsbD (k - 1) := by
  have hsent : sentBit c it k = c.fillBit := if_neg fun h => Nat.not_le_of_lt hk h.2
  rw [capturedBit, hsent]

theorem responseBit_of_lt (c : LaneConfig) (it : Item) (din : BitVec 64) {j : Nat}
    (hj : j < it.inLen.toNat) :
    responseBit c it din j = if c.loopback then c.fillBit else
      din.getLsbD (it.outLen.toNat + if c.lsbFirst then j else it.inLen.toNat - 1 - j) := by
  rw [responseBit, if_pos hj, capturedBit_after_command c it din (by split <;> omega)]
  congr 2
  split <;> omega

theorem responseBit_of_le (c : LaneConfig) (it : Item) (din : BitVec 64) {j : Nat}
    (hj : it.inLen.toNat ≤ j) : responseBit c it din j = false :=
  if_neg (Nat.not_lt_of_le hj)

theorem response_getLsbD_of_lt (c : LaneConfig) (it : Item) (din : BitVec 64)
    (hin : it.inLen.toNat ≤ 32) {j : Nat} (hj : j < it.inLen.toNat) :
    (response c it din).getLsbD j = if c.loopback then c.fillBit else
      din.getLsbD (it.outLen.toNat + if c.lsbFirst then j else it.inLen.toNat - 1 - j) := by
  rw [response_getLsbD c it din j (by omega), responseBit_of_lt c it din hj]

theorem response_getLsbD_of_le (c : LaneConfig) (it : Item) (din : BitVec 64) {j : Nat}
    (hj : it.inLen.toNat ≤ j) : (response c it din).getLsbD j = false := by
  rcases Nat.lt_or_ge j 32 with h | h
  · rw [response_getLsbD c it din j h, responseBit_of_le c it din hj]
  · exact BitVec.getLsbD_of_ge _ _ h

/-! ### The response check (R61) -/

/-- A response without bits beyond in_len is stuck exactly where its in_len bits are equal. -/
theorem responseStuck_iff {it : Item} {r : Value} (hin : it.inLen.toNat ≤ 32)
    (hhigh : ∀ j, it.inLen.toNat ≤ j → r.getLsbD j = false) :
    responseStuck it r = true ↔ ∀ j < it.inLen.toNat, r.getLsbD j = r.getLsbD 0 := by
  simp only [responseStuck, Bool.or_eq_true, decide_eq_true_eq]
  constructor
  · rintro (rfl | rfl) j hj
    · simp
    · rw [lowMask_getLsbD _ j hin, lowMask_getLsbD _ 0 hin]
      simp [hj, Nat.zero_lt_of_lt hj]
  · intro heq
    cases hbit : r.getLsbD 0 with
    | false =>
      refine .inl (BitVec.eq_of_getLsbD_eq fun j _ => ?_)
      rw [BitVec.ofNat_eq_ofNat, BitVec.getLsbD_zero]
      rcases Nat.lt_or_ge j it.inLen.toNat with hj | hj
      · exact (heq j hj).trans hbit
      · exact hhigh j hj
    | true =>
      refine .inr (BitVec.eq_of_getLsbD_eq fun j _ => ?_)
      rw [lowMask_getLsbD _ j hin]
      rcases Nat.lt_or_ge j it.inLen.toNat with hj | hj
      · rw [heq j hj, hbit, decide_eq_true hj]
      · rw [hhigh j hj, decide_eq_false (Nat.not_lt_of_le hj)]

theorem shiftOutcome_of_stuck {c : LaneConfig} {it : Item} {din : BitVec 64}
    (hcheck : c.responseCheck = true) (hlen : 8 ≤ it.inLen.toNat)
    (hstuck : responseStuck it (response c it din) = true) :
    shiftOutcome c it din = .fault .stuckResponse := by
  simp [shiftOutcome, hcheck, hlen, hstuck]

theorem shiftOutcome_of_passed {c : LaneConfig} {it : Item} {din : BitVec 64}
    (h : c.responseCheck = false ∨ it.inLen.toNat < 8 ∨
      responseStuck it (response c it din) ≠ true) :
    shiftOutcome c it din = .completed (response c it din) := by
  refine if_neg fun hfault => ?_
  simp only [Bool.and_eq_true, decide_eq_true_eq] at hfault
  obtain ⟨⟨hcheck, hlen⟩, hstuck⟩ := hfault
  rcases h with hoff | hshort | hmixed
  · simp [hoff] at hcheck
  · omega
  · exact hmixed hstuck

/-! ### SHIFT_END and GAP_END as steps (R61, R62) -/

theorem endShifting_of_shifting (ending : Ending) {n : Fin 4} {s : State} {it : Item}
    (h : (s.lanes[n]).phase = .shifting it) (din : BitVec 64) :
    endShifting ending n din s =
      let o := shiftOutcome (s.lanes[n]).cfg it din
      let t := setPhase n (.gap it o) s
      if (s.lanes[n]).cfg.gap = 0 then ending n it o t else t := by
  unfold endShifting
  rw [h]

theorem endGap_of_gap (ending : Ending) {n : Fin 4} {s : State} {it : Item} {o : ItemOutcome}
    (h : (s.lanes[n]).phase = .gap it o) : endGap ending n s = ending n it o s := by
  unfold endGap
  rw [h]

theorem exec_shiftEnd {s : State} (h : Running s) (n : Fin 4) (din : BitVec 64) :
    exec (.shiftEnd n din) s = .next (endShifting finishItem n din s) :=
  running_eq_next h (endShifting finishItem n din)

theorem exec_gapEnd {s : State} (h : Running s) (n : Fin 4) :
    exec (.gapEnd n) s = .next (endGap finishItem n s) :=
  running_eq_next h (endGap finishItem n)

theorem setPhase_running {s : State} (h : Running s) (n : Fin 4) (p : LanePhase) :
    Running (setPhase n p s) := h

/-- With a gap above 0, SHIFT_END leaves the lane in GAP with the outcome decided. -/
theorem exec_shiftEnd_of_gap_ne_zero {s : State} {n : Fin 4} {it : Item} (hs : Running s)
    (hphase : (s.lanes[n]).phase = .shifting it) (hgap : (s.lanes[n]).cfg.gap ≠ 0)
    (din : BitVec 64) :
    exec (.shiftEnd n din) s =
      .next (setPhase n (.gap it (shiftOutcome (s.lanes[n]).cfg it din)) s) := by
  rw [exec_shiftEnd hs, endShifting_of_shifting finishItem hphase]
  exact congrArg _ (if_neg hgap)

/-- With a gap of 0, SHIFT_END is the entry to GAP and GAP_END on the state so entered. -/
theorem exec_shiftEnd_of_gap_eq_zero {s : State} {n : Fin 4} {it : Item} (hs : Running s)
    (hphase : (s.lanes[n]).phase = .shifting it) (hgap : (s.lanes[n]).cfg.gap = 0)
    (din : BitVec 64) :
    exec (.shiftEnd n din) s =
      exec (.gapEnd n) (setPhase n (.gap it (shiftOutcome (s.lanes[n]).cfg it din)) s) := by
  have hentered := congrArg Lane.phase
    (setPhase_lanes_self s n (.gap it (shiftOutcome (s.lanes[n]).cfg it din)))
  rw [exec_shiftEnd hs, endShifting_of_shifting finishItem hphase,
    exec_gapEnd (setPhase_running hs ..), endGap_of_gap finishItem hentered]
  exact congrArg _ (if_pos hgap)

/-- Settles O19: the outcome is `shiftOutcome`. Below in_len the bits of the statement are those of the
response, so the response check on them is `responseStuck`. -/
theorem shiftEnd : Obligations.ShiftEnd := by
  intro n din s it l hs hl hphase hin _ bit entered hbit hentered
  subst hl
  have hr : ∀ j < it.inLen.toNat, (response (s.lanes[n]).cfg it din).getLsbD j = bit j :=
    fun j hj => (response_getLsbD_of_lt _ it din hin hj).trans (hbit j).symm
  have hhigh : ∀ j, it.inLen.toNat ≤ j → (response (s.lanes[n]).cfg it din).getLsbD j = false :=
    fun _ hj => response_getLsbD_of_le _ it din hj
  have hstuck : responseStuck it (response (s.lanes[n]).cfg it din) = true ↔
      ∀ j < it.inLen.toNat, bit j = bit 0 := by
    rw [responseStuck_iff hin hhigh]
    refine forall₂_congr fun j hj => ?_
    rw [hr j hj, hr 0 (by omega)]
  have henter : ∀ o, entered o = setPhase n (.gap it o) s := hentered
  refine ⟨shiftOutcome (s.lanes[n]).cfg it din, ?_, ?_, ?_, ?_⟩
  · rintro ⟨hcheck, hlen, heq⟩
    exact shiftOutcome_of_stuck hcheck hlen (hstuck.mpr heq)
  · intro hpassed
    refine ⟨response (s.lanes[n]).cfg it din, shiftOutcome_of_passed ?_, hr, hhigh⟩
    refine hpassed.imp_right (Or.imp_right ?_)
    rintro ⟨j, hj, hne⟩ h
    exact hne (hstuck.mp h j hj)
  · intro hgap
    rw [henter, exec_shiftEnd_of_gap_ne_zero hs hphase hgap]
  · intro hgap
    rw [henter, exec_shiftEnd_of_gap_eq_zero hs hphase hgap]

end Sys2Proof.Machine
end

section
/-! Proofs about the sample table: the field that an extraction takes, the slot that a completion stores
it in, and what a write of SAMPLE_SEL copies and consumes. -/

namespace Sys2Proof.Machine

/-! ### The bits of an extraction (R78) -/

/-- The field moved down to bit 0, bit by bit, before its extension. -/
theorem maskedField_getLsbD (r : Value) (shift : Nat) {width : Nat} (hw : width ≤ 32) (j : Nat) :
    ((r >>> shift) &&& lowMask width).getLsbD j = (r.getLsbD (shift + j) && decide (j < width)) := by
  rw [BitVec.getLsbD_and, BitVec.getLsbD_ushiftRight, lowMask_getLsbD width j hw]

/-- The choice of the extension is by the field's top bit, which is a bit of the response. -/
theorem extractField_eq (r : Value) (shift : Nat) {width : Nat} (hpos : 1 ≤ width) (hw : width ≤ 32)
    (signed : Bool) :
    extractField r shift width signed =
      if signed && r.getLsbD (shift + width - 1) then
        ((r >>> shift) &&& lowMask width) ||| ~~~ (lowMask width)
      else (r >>> shift) &&& lowMask width := by
  have htop : ((r >>> shift) &&& lowMask width).getLsbD (width - 1) =
      r.getLsbD (shift + width - 1) := by
    rw [maskedField_getLsbD r shift hw, Nat.add_sub_assoc hpos]
    simp [Nat.sub_lt hpos]
  simp only [extractField, htop]

theorem extractField_getLsbD_of_lt (r : Value) (shift : Nat) {width : Nat} (hw : width ≤ 32)
    (signed : Bool) {j : Nat} (hj : j < width) :
    (extractField r shift width signed).getLsbD j = r.getLsbD (shift + j) := by
  have hpos : 1 ≤ width := by omega
  rw [extractField_eq r shift hpos hw]
  split
  · simp [maskedField_getLsbD r shift hw, lowMask_getLsbD width j hw, hj]
  · simp [maskedField_getLsbD r shift hw, hj]

theorem extractField_getLsbD_of_le (r : Value) (shift : Nat) {width : Nat} (hpos : 1 ≤ width)
    (signed : Bool) {j : Nat} (hj : width ≤ j) (hj32 : j < 32) :
    (extractField r shift width signed).getLsbD j =
      (signed && r.getLsbD (shift + width - 1)) := by
  have hw : width ≤ 32 := by omega
  have habove : ¬ j < width := by omega
  rw [extractField_eq r shift hpos hw]
  split
  next hsign =>
    rw [BitVec.getLsbD_or, BitVec.getLsbD_not, lowMask_getLsbD width j hw]
    simp [habove, hj32, hsign]
  next hsign =>
    simp [maskedField_getLsbD r shift hw, habove, hsign]

/-! ### The values that a DONE leaves in the table (R77, R80) -/

theorem setSlot_slots (t : SampleTable) (i j : Fin 64) (r : Slot) :
    (t.setSlot i r).slots[j] = if j = i then r else t.slots[j] := by
  split
  next h => rw [h, setSlot_slots_self]
  next h => rw [setSlot_slots_ne t i j r (Ne.symm h)]

theorem storeSample_value (i j : Fin 64) (v : Value) (q : Word) (s : State) :
    ((storeSample i v q s).samples.slots[j]).value =
      if j = i then v else (s.samples.slots[j]).value := by
  simp only [storeSample, postIfEnabled_samples, setSlot_samples, setSlot_slots,
    apply_ite State.samples, raise_samples, ite_self, apply_ite Slot.value]

/-- Neither the fault raise nor the scan controller reaches the sample table (R66). -/
theorem complete_samples_of_exchange (n : Fin 4) {it : Item} (h : it.kind = .exchange)
    (o : ItemOutcome) (s : State) : (complete n it o s).samples = (sampleTake it o s).samples := by
  rw [complete, ctrlTake_samples, raiseLaneFault_samples, if_pos h]

/-- Settles O25: the bits are those of `extractField` below and from the width on, and the value is the one
that `storeSample` leaves. -/
theorem extractionTakesTheField : Obligations.ExtractionTakesTheField := by
  refine ⟨fun r shift width signed hpos hfits => ⟨fun j hj => ?_, fun j hj hj32 => ?_⟩, ?_⟩
  · exact extractField_getLsbD_of_lt r shift (by omega) signed hj
  · exact extractField_getLsbD_of_le r shift hpos signed hj hj32
  · intro n it r s hkind i
    rw [complete_samples_of_exchange n hkind]
    exact storeSample_value it.slot i _ it.frame s

/-! ### SAMPLE_SEL (R86, R87) -/

theorem exec_samplePeek {s : State} (h : Running s) (slot : Byte) :
    exec (.samplePeek slot) s = .next (writeSampleSel slot false s) :=
  running_eq_next h (writeSampleSel slot false)

theorem exec_sampleSnapshotConsume {s : State} (h : Running s) (slot : Byte) :
    exec (.sampleSnapshotConsume slot) s = .next (writeSampleSel slot true s) :=
  running_eq_next h (writeSampleSel slot true)

theorem slotOfByte_of_eq {slot : Byte} {i : Fin 64} (h : slot.toNat = i.val) :
    slotOfByte slot = some i := by
  simp [slotOfByte, h]

theorem slotOfByte_of_le {slot : Byte} (h : 64 ≤ slot.toNat) : slotOfByte slot = none :=
  dif_neg (Nat.not_lt_of_le h)

theorem writeSampleSel_of_eq {slot : Byte} {i : Fin 64} (h : slot.toNat = i.val) (consume : Bool)
    (s : State) :
    writeSampleSel slot consume s = { s with samples :=
      (if consume then (s.samples.snapshot i consume).setSlot i (s.samples.slots[i]).consumed
      else s.samples.snapshot i consume) } := by
  rw [writeSampleSel, slotOfByte_of_eq h]

theorem writeSampleSel_of_le {slot : Byte} (h : 64 ≤ slot.toNat) (consume : Bool) (s : State) :
    writeSampleSel slot consume s = refuseWrite .tableRange 0x0E s := by
  rw [writeSampleSel, slotOfByte_of_le h]

/-- Settles O36: a slot below 64 is copied, and consumed where the write asks for it; any other is refused. -/
theorem sampleSelect : Obligations.SampleSelect := by
  intro slot s hs
  rw [exec_samplePeek hs, exec_sampleSnapshotConsume hs]
  refine ⟨?_, fun hout => ?_⟩
  · rintro i hslot r rfl
    rw [writeSampleSel_of_eq hslot, writeSampleSel_of_eq hslot]
    exact ⟨rfl, rfl⟩
  · rw [writeSampleSel_of_le hout, writeSampleSel_of_le hout]
    exact ⟨rfl, rfl⟩

end Sys2Proof.Machine
end

section
/-! Proofs about the limit monitor: the tests of R98 for each limit state that a slot can hold, and the limit
state that a completion leaves in its slot. -/

namespace Sys2Proof.Machine

/-! ### The tests of R98, by the state held before -/

theorem evaluateLimit_of_disabled {c : SlotConfig} (h : c.limitEnable = false) (before : LimitState)
    (v : Value) : evaluateLimit c before v = (.unknown, .none) :=
  if_neg (ne_true_of_eq_false h)

theorem evaluateLimit_unknown_or_inBand {c : SlotConfig} (h : c.limitEnable = true)
    {before : LimitState} (hb : before = .unknown ∨ before = .inBand) (v : Value) :
    evaluateLimit c before v =
      if c.high.toInt < v.toInt then (.high, .high)
      else if v.toInt < c.low.toInt then (.low, .low)
      else (.inBand, .none) := by
  rcases hb with rfl | rfl <;> exact if_pos h

theorem evaluateLimit_high {c : SlotConfig} (h : c.limitEnable = true) (v : Value) :
    evaluateLimit c .high v =
      if v.toInt < c.low.toInt then (.low, .low)
      else if v.toInt ≤ c.returnFromHigh then (.inBand, .back)
      else (.high, .none) := if_pos h

theorem evaluateLimit_low {c : SlotConfig} (h : c.limitEnable = true) (v : Value) :
    evaluateLimit c .low v =
      if c.high.toInt < v.toInt then (.high, .high)
      else if c.returnFromLow ≤ v.toInt then (.inBand, .back)
      else (.low, .none) := if_pos h

/-! ### The limit state that a DONE leaves in its slot (R98) -/

/-- Neither the overwrite raise nor the alert reaches the slot that was written. -/
theorem storeSample_limit_self (i : Fin 64) (v : Value) (q : Word) (s : State) :
    ((storeSample i v q s).samples.slots[i]).limit =
      (evaluateLimit s.limits[i] (s.samples.slots[i]).limit v).1 := by
  simp only [storeSample, postIfEnabled_samples, setSlot_samples, setSlot_slots_self]

theorem complete_done_limit (n : Fin 4) {it : Item} (h : it.kind = .exchange) (r : Value)
    (s : State) :
    ((complete n it (.completed r) s).samples.slots[it.slot]).limit =
      (evaluateLimit s.limits[it.slot] (s.samples.slots[it.slot]).limit
        ((complete n it (.completed r) s).samples.slots[it.slot]).value).1 := by
  rw [complete_samples_of_exchange n h, sampleTake, storeSample_limit_self, storeSample_value,
    if_pos rfl]

/-- Settles O26: a DONE stores the verdict on the value it stores; each row of the table is one branch of the
tests for the state held before. -/
theorem limitEvaluation : Obligations.LimitEvaluation := by
  refine ⟨fun n it r s t hkind ht => ht ▸ complete_done_limit n hkind r s, fun c v => ⟨?_, ?_⟩⟩
  · exact fun hoff before => evaluateLimit_of_disabled hoff before v
  intro hon
  refine ⟨fun before hbefore => ?_, ?fromHigh, ?fromLow⟩
  · rw [evaluateLimit_unknown_or_inBand hon hbefore]
    refine ⟨fun habove => if_pos habove, fun hhigh hbelow => ?_, fun hhigh hlow => ?_⟩
    · rw [if_neg hhigh.not_gt, if_pos hbelow]
    · rw [if_neg hhigh.not_gt, if_neg hlow.not_gt]
  case fromHigh =>
    rw [evaluateLimit_high hon]
    refine ⟨fun hbelow => if_pos hbelow, fun hlow hback => ?_, fun hlow hstays => ?_⟩
    · rw [if_neg hlow.not_gt]
      exact if_pos hback
    · rw [if_neg hlow.not_gt]
      exact if_neg hstays.not_ge
  case fromLow =>
    rw [evaluateLimit_low hon]
    refine ⟨fun habove => if_pos habove, fun hhigh hback => ?_, fun hhigh hstays => ?_⟩
    · rw [if_neg hhigh.not_gt]
      exact if_pos hback
    · rw [if_neg hhigh.not_gt]
      exact if_neg hstays.not_ge

end Sys2Proof.Machine
end

section
/-! Proofs about the event controller: the pending set, eligibility and IRQ, the claim of the best eligible
source, and the host's writes of EV_DONE and EV_RAISE. -/

namespace Sys2Proof.Machine

/-! ### The pending set (R125, R126) -/

theorem isPending_of_ne (s : State) {n : Fin 16} (h : n ≠ srcAlertReady) :
    isPending s n = s.events.edges.getLsbD n.val := if_neg h

theorem isPending_alertReady_iff (s : State) :
    isPending s srcAlertReady = true ↔ s.alerts.records ≠ [] ∧
      (s.events.sources[srcAlertReady]).masked = false ∧ ∀ x ∈ s.events.stack, x.source ≠ srcAlertReady := by
  simp [isPending, alertReadyPending, AlertQueue.ready, Events.inService, and_assoc]

/-! ### Priority and eligibility (R129) -/

/-- An empty stack puts no bound beside the threshold. -/
theorem currentPriority_lt_iff (e : Events) (k : Nat) :
    e.currentPriority < k ↔
      e.threshold.toNat < k ∧ ∀ top rest, e.stack = top :: rest → top.level.toNat < k := by
  cases hstack : e.stack with
  | nil => simp [Events.currentPriority, Events.topLevel, hstack]
  | cons top rest => simp [Events.currentPriority, Events.topLevel, hstack]

theorem isEligible_iff (s : State) (n : Fin 16) :
    isEligible s n = true ↔ isPending s n = true ∧ (s.events.sources[n]).masked = false ∧
      s.events.threshold.toNat < (s.events.sources[n]).level.toNat ∧
      ∀ top rest, s.events.stack = top :: rest →
        top.level.toNat < (s.events.sources[n]).level.toNat := by
  simp only [isEligible, Bool.and_eq_true, Bool.not_eq_true', decide_eq_true_eq, currentPriority_lt_iff,
    and_assoc]

/-! ### IRQ and its pin (R130) -/

theorem mem_allSources : ∀ n : Fin 16, n ∈ allSources := by decide

theorem irqActive_iff (s : State) : irqActive s = true ↔ ∃ n, isEligible s n = true := by
  simp only [irqActive, List.any_eq_true, mem_allSources, true_and]

theorem irqPin_inReset {s : State} (h : s.inReset = true) : irqPin s = true := if_pos h

theorem irqPin_running {s : State} (h : Running s) :
    irqPin s = if s.events.irqActiveHigh then irqActive s else !irqActive s :=
  if_neg (ne_true_of_eq_false h)

/-- Settles O33: a source is eligible by `isEligible_iff`, and IRQ looks for one among all sixteen. -/
theorem irqLine : Obligations.IrqLine := by
  intro s
  refine ⟨?_, fun n hn => isPending_of_ne s hn, isPending_alertReady_iff s, irqPin_inReset, fun hs => ?_⟩
  · simp only [irqActive_iff, isEligible_iff]
  · rw [irqPin_running hs]
    exact ⟨fun hlow => if_neg (ne_true_of_eq_false hlow), fun hhigh => if_pos hhigh⟩

/-! ### The best eligible source (R132) -/

/-- A source that is taken over another one, or as the first one, is eligible. -/
theorem mem_betterSource {s : State} {b : Option (Fin 16)} {a m : Fin 16}
    (h : m ∈ betterSource s b a) : m ∈ b ∨ (m = a ∧ isEligible s a = true) := by
  unfold betterSource at h
  split at h
  next ha =>
    split at h
    next => exact .inr ⟨(Option.some.inj h).symm, ha⟩
    next c =>
      split at h
      next => exact .inr ⟨(Option.some.inj h).symm, ha⟩
      next => exact .inl h
  next => exact .inl h

/-- An eligible source is taken over one of a lower level. -/
theorem betterSource_of_lower {s : State} {b : Option (Fin 16)} {n : Fin 16}
    (hn : isEligible s n = true)
    (hb : ∀ m ∈ b, (s.events.sources[m]).level.toNat < (s.events.sources[n]).level.toNat) :
    betterSource s b n = some n := by
  unfold betterSource
  rw [if_pos hn]
  cases b with
  | none => rfl
  | some m => exact if_pos (hb m rfl)

/-- The best of sources that are all of a lower level than `n` is of a lower level too. -/
theorem foldl_betterSource_lower {s : State} {n : Fin 16} {l : List (Fin 16)}
    (hl : ∀ m ∈ l, isEligible s m = true →
      (s.events.sources[m]).level.toNat < (s.events.sources[n]).level.toNat)
    {b : Option (Fin 16)}
    (hb : ∀ m ∈ b, (s.events.sources[m]).level.toNat < (s.events.sources[n]).level.toNat) :
    ∀ m ∈ l.foldl (betterSource s) b,
      (s.events.sources[m]).level.toNat < (s.events.sources[n]).level.toNat := by
  induction l generalizing b with
  | nil => exact hb
  | cons a l ih =>
    refine ih (fun m hm => hl m (List.mem_cons_of_mem a hm)) fun m hm => ?_
    rcases mem_betterSource hm with hold | ⟨rfl, he⟩
    · exact hb m hold
    · exact hl m List.mem_cons_self he

/-- A source is not given up for sources of no higher level. -/
theorem foldl_betterSource_stays {s : State} {n : Fin 16} {l : List (Fin 16)}
    (hl : ∀ m ∈ l, isEligible s m = true →
      (s.events.sources[m]).level.toNat ≤ (s.events.sources[n]).level.toNat) :
    l.foldl (betterSource s) (some n) = some n := by
  induction l with
  | nil => rfl
  | cons a l ih =>
    have ha : betterSource s (some n) a = some n := by
      unfold betterSource
      split
      next he => exact if_neg (Nat.not_lt_of_le (hl a List.mem_cons_self he))
      next => rfl
    rw [List.foldl_cons, ha]
    exact ih fun m hm => hl m (List.mem_cons_of_mem a hm)

/-- The sources before `n` are of a lower level, since at its own level they would be better by their number;
those behind it are of no higher one. -/
theorem bestEligible_eq_some {s : State} {n : Fin 16} (hn : isEligible s n = true)
    (hbest : ∀ m, isEligible s m = true →
      (s.events.sources[m]).level.toNat ≤ (s.events.sources[n]).level.toNat ∧
        ((s.events.sources[m]).level = (s.events.sources[n]).level → n ≤ m)) :
    bestEligible s = some n := by
  obtain ⟨before, behind, hsplit⟩ := List.append_of_mem (mem_allSources n)
  have hsorted : allSources.Pairwise (· < ·) := by decide
  rw [hsplit, List.pairwise_append] at hsorted
  obtain ⟨-, -, hbefore⟩ := hsorted
  have hlower : ∀ m ∈ before, isEligible s m = true →
      (s.events.sources[m]).level.toNat < (s.events.sources[n]).level.toNat := by
    intro m hm he
    have hlt : m < n := hbefore m hm n List.mem_cons_self
    obtain ⟨hle, htie⟩ := hbest m he
    exact Nat.lt_of_le_of_ne hle fun heq => absurd (htie (BitVec.eq_of_toNat_eq heq)) (Fin.not_le.2 hlt)
  rw [bestEligible, hsplit, List.foldl_append, List.foldl_cons,
    betterSource_of_lower hn (foldl_betterSource_lower hlower fun m hm =>
      absurd hm (Option.not_mem_none m))]
  exact foldl_betterSource_stays fun m _ he => (hbest m he).1

theorem bestEligible_eq_none {s : State} (h : ∀ n, ¬ isEligible s n = true) : bestEligible s = none :=
  Option.eq_none_iff_forall_ne_some.2 fun n hn => h n (bestEligible_eligible s n hn)

/-! ### EV_CLAIM (R132, R133) -/

theorem exec_evClaim {s : State} (h : Running s) : exec .evClaim s = .next (hostRead 0x18 claim s) :=
  running_eq_next h (hostRead 0x18 claim)

theorem hostRead_claim_of_best {s : State} {n : Fin 16} (h : bestEligible s = some n) :
    hostRead 0x18 claim s = { s with
      events := s.events.takeIntoService n
      window := { s.window with lastRead := some (BitVec.ofNat 16 n.val) } } := by
  simp [hostRead, registerWord, claim, claimWord, h]

theorem hostRead_claim_of_none {s : State} (h : bestEligible s = none) :
    hostRead 0x18 claim s = { s with window := { s.window with lastRead := some 0x00FF } } := by
  simp [hostRead, registerWord, claim, claimWord, h]

/-- ALERT_READY leaves the pending set by its entry on the stack, any other source by its flag (R126, R132). -/
theorem isPending_of_takeIntoService {s t : State} {n : Fin 16}
    (h : t.events = s.events.takeIntoService n) : isPending t n = false := by
  by_cases hready : n = srcAlertReady
  · subst hready
    refine eq_false_of_ne_true fun hpending => ?_
    obtain ⟨-, -, hserved⟩ := (isPending_alertReady_iff t).1 hpending
    rw [h] at hserved
    exact hserved _ List.mem_cons_self rfl
  · rw [isPending_of_ne t hready, h, Events.takeIntoService, clearBit_getLsbD]
    simp

/-- Settles O29: the named eligibility is `isEligible`, and the read takes `bestEligible` into service. -/
theorem evClaim : Obligations.EvClaim := by
  intro s eligible hs heligible
  have hiff : ∀ n, eligible n ↔ isEligible s n = true := fun n =>
    (heligible n).trans (isEligible_iff s n).symm
  refine ⟨fun n hn hbest => ?_, fun hnone => ?_⟩
  · have hchosen : bestEligible s = some n :=
      bestEligible_eq_some ((hiff n).1 hn) fun m hm => hbest m ((hiff m).2 hm)
    refine ⟨_, exec_evClaim hs, ?_⟩
    rw [hostRead_claim_of_best hchosen]
    exact ⟨isPending_of_takeIntoService rfl, rfl⟩
  · have hempty : bestEligible s = none := bestEligible_eq_none fun n hn => hnone n ((hiff n).2 hn)
    rw [exec_evClaim hs, hostRead_claim_of_none hempty]

/-! ### EV_DONE (R135) -/

theorem exec_evDone {s : State} (h : Running s) (v : Word) :
    exec (.evDone v) s = .next (writeDone v s) :=
  running_eq_next h (writeDone v)

theorem writeDone_of_empty {s : State} (h : s.events.stack = []) (v : Word) :
    writeDone v s = refuseWrite .doneEmpty 0x18 s := by
  simp only [writeDone, h]

theorem writeDone_of_ne {s : State} {top : ServiceEntry} {rest : List ServiceEntry}
    (h : s.events.stack = top :: rest) {v : Word} (hv : v.toNat ≠ top.source.val) :
    writeDone v s = refuseWrite .doneMismatch 0x18 s := by
  simp only [writeDone, h, if_neg hv]

theorem writeDone_of_eq {s : State} {top : ServiceEntry} {rest : List ServiceEntry}
    (h : s.events.stack = top :: rest) {v : Word} (hv : v.toNat = top.source.val) :
    writeDone v s = { s with events := { s.events with stack := rest } } := by
  simp only [writeDone, h, if_pos hv]

/-- Settles O30: the three cases of `writeDone`. -/
theorem evDone : Obligations.EvDone := by
  intro v s hs
  rw [exec_evDone hs]
  refine ⟨fun hempty => ?_, fun top rest hstack => ⟨fun hne => ?_, fun heq => ?_⟩⟩
  · rw [writeDone_of_empty hempty]
  · rw [writeDone_of_ne hstack hne]
  · rw [writeDone_of_eq hstack heq]

/-! ### EV_RAISE and the raise of a source (R125, R137) -/

theorem exec_evRaise {s : State} (h : Running s) (v : Word) :
    exec (.evRaise v) s = .next (raise srcSoftware s) :=
  running_eq_next h (raise srcSoftware)

theorem events_raise_of_masked {e : Events} {n : Fin 16} (h : (e.sources[n]).masked = true) :
    e.raise n = e := if_pos h

theorem events_raise_of_unmasked {e : Events} {n : Fin 16} (h : (e.sources[n]).masked = false) :
    e.raise n = { e with edges := setBit e.edges n } := if_neg (ne_true_of_eq_false h)

/-- Settles O31: an unmasked source's raise sets its bit of the pending set, by `setBit_getLsbD`. -/
theorem evRaise : Obligations.EvRaise := by
  refine ⟨fun v s hs => ⟨exec_evRaise hs v, rfl⟩, fun e n => ⟨events_raise_of_masked, fun hunmasked => ?_⟩⟩
  rw [events_raise_of_unmasked hunmasked]
  exact ⟨rfl, setBit_getLsbD e.edges n⟩

end Sys2Proof.Machine
end

section
/-! Proofs about EV_THRESH: the settings of the event controller, which no event of the device reaches, and what
a reset leaves of them. -/

namespace Sys2Proof.Machine

/-! ### The settings of the event controller

What only the host sets: the configuration of the sources, the threshold and the polarity. A raise changes the
pending set, a claim the pending set and the stack. -/

/-- The settings of an event controller. -/
structure EventSettings where
  sources       : Vector SourceConfig 16
  threshold     : BitVec 3
  irqActiveHigh : Bool

def Events.settings (e : Events) : EventSettings := ⟨e.sources, e.threshold, e.irqActiveHigh⟩

section
variable (s : State)

@[simp] theorem events_raise_settings (e : Events) (n : Fin 16) : (e.raise n).settings = e.settings := by
  rcases raise_cases e n with h | h <;> rw [h]
  rfl

/-! ### Completions -/

@[simp] theorem postAlert_settings (kind : AlertKind) (i : Fin 64) (q : Word) (v : Value) :
    (postAlert kind i q v s).events.settings = s.events.settings := by
  rcases postAlert_cases kind i q v s with ⟨-, h⟩ | ⟨-, h⟩ <;> rw [h]
  simp

@[simp] theorem postIfEnabled_settings (kind : AlertKind) (i : Fin 64) (q : Word) (v : Value) :
    (postIfEnabled kind i q v s).events.settings = s.events.settings := by
  unfold postIfEnabled
  split
  · exact postAlert_settings ..
  · rfl

@[simp] theorem sampleTake_settings (it : Item) (o : ItemOutcome) :
    (sampleTake it o s).events.settings = s.events.settings := by
  cases o with
  | completed r =>
    simp only [sampleTake, storeSample, postIfEnabled_settings, setSlot_events]
    split
    · simp
    · rfl
  | fault kind => simp [sampleTake, faultSample]
  | skipped => rfl
  | aborted => rfl

@[simp] theorem raiseLaneFault_settings (n : Fin 4) (o : ItemOutcome) :
    (raiseLaneFault n o s).events.settings = s.events.settings := by
  cases o with
  | fault kind => simp [raiseLaneFault]
  | completed r => rfl
  | skipped => rfl
  | aborted => rfl

@[simp] theorem complete_settings (n : Fin 4) (it : Item) (o : ItemOutcome) :
    (complete n it o s).events.settings = s.events.settings := by
  rw [complete, ctrlTake_events, raiseLaneFault_settings]
  split
  · exact sampleTake_settings ..
  · rfl

/-! ### Lanes and the walk -/

@[simp] theorem settleLane_events (n : Fin 4) : (settleLane n s).events = s.events := by
  obtain ⟨-, -, hevents⟩ := settleLane_quiet s n
  exact hevents

@[simp] theorem settleItem_settings (n : Fin 4) (it : Item) (o : ItemOutcome) :
    (settleItem n it o s).events.settings = s.events.settings := by
  rw [settleItem, settleLane_events, setLane_events, complete_settings]

theorem issueEntry_events (k : ItemKind) (e : Entry) : (issueEntry k e s).events = s.events :=
  settleLane_events _ _

theorem takeDueEntry_settings (k : ItemKind) (e : Entry) :
    (takeDueEntry k e s).events.settings = s.events.settings := by
  rcases takeDueEntry_cases k e s with ⟨why, -, h⟩ | ⟨-, -, h⟩ | ⟨-, -, h⟩ <;> rw [h]
  · exact events_raise_settings ..
  · rw [issueEntry_events]

theorem walkEntry_settings : (walkEntry s).events.settings = s.events.settings := by
  simp only [walkEntry]
  split
  · split
    · split
      · rfl
      · exact takeDueEntry_settings ..
    · rfl
  · split <;> rfl

@[simp] theorem runWalk_settings : (runWalk s).events.settings = s.events.settings :=
  runWalk_keeps (·.events.settings = s.events.settings)
    (fun t _ ht => (walkEntry_settings t).trans ht) s rfl

@[simp] theorem finishItem_settings (n : Fin 4) (it : Item) (o : ItemOutcome) :
    (finishItem n it o s).events.settings = s.events.settings := by
  rw [finishItem, runWalk_settings, settleItem_settings]

theorem sampleReady_events (n : Fin 4) (rdy : Bool) : (sampleReady n rdy s).events = s.events := by
  unfold sampleReady
  split
  · split <;> rfl
  all_goals rfl

theorem endGap_settings (n : Fin 4) : (endGap finishItem n s).events.settings = s.events.settings := by
  rcases endGap_cases finishItem n s with ⟨it, o, -, h⟩ | h <;> rw [h]
  exact finishItem_settings ..

theorem endShifting_settings (n : Fin 4) (din : BitVec 64) :
    (endShifting finishItem n din s).events.settings = s.events.settings := by
  rcases endShifting_cases finishItem n din s with ⟨it, -, o, -, ⟨-, h⟩ | ⟨-, h⟩⟩ | h <;> rw [h]
  · rw [finishItem_settings, setPhase_events]
  · rfl

/-- A late count is a change of phases, or that and the end of the item. -/
theorem lateCount_settings (n : Fin 4) :
    (lateCount finishItem s n).events.settings = s.events.settings := by
  rcases lateCount_cases finishItem s n with
      h | ⟨it, -, ⟨-, h⟩ | ⟨-, h⟩⟩ | ⟨it, -, ⟨-, h⟩ | ⟨-, h⟩⟩ <;> rw [h] <;> simp

@[simp] theorem takeAndRelease_settings : (takeAndRelease s).events.settings = s.events.settings := by
  simp only [takeAndRelease, when]
  split
  · unfold releaseHeld
    split
    · rw [runWalk_settings, issueEntry_events, settleLane_events]
    · rw [settleLane_events]
  · rw [settleLane_events]

/-! ### Frames and triggers -/

@[simp] theorem swapIfPending_settings : (swapIfPending s).events.settings = s.events.settings := by
  rcases swapIfPending_cases s with ⟨-, h⟩ | ⟨-, h⟩ <;> rw [h]
  simp

section
variable {meet : State → State} (hmeet : ∀ t, (meet t).events.settings = t.events.settings)
include hmeet

theorem frameStartMeeting_settings : (frameStartMeeting meet s).events.settings = s.events.settings := by
  simp [frameStartMeeting, hmeet]

theorem enterStoppedMeeting_settings :
    (enterStoppedMeeting meet s).events.settings = s.events.settings := by
  simp [enterStoppedMeeting, hmeet]

end

theorem endFrame_settings {first second : State → State}
    (hfirst : ∀ t, (first t).events.settings = t.events.settings)
    (hsecond : ∀ t, (second t).events.settings = t.events.settings) :
    (endFrame first second s).events.settings = s.events.settings := by
  have hended : (first (raise srcFrameEnd { s with ctrl := s.ctrl.closeReport })).events.settings =
      s.events.settings := by simp [hfirst]
  simp only [endFrame]
  split
  · rw [enterStoppedMeeting_settings _ hsecond, hended]
  · split
    · rw [frameStartMeeting_settings _ hsecond, hended]
    · rw [hsecond, hended]

theorem takeRead_settings (r : EventRead) : (takeRead s r).events.settings = s.events.settings := by
  rw [takeRead_eq]
  rfl

theorem takeReads_settings (reads : List EventRead) :
    (takeReads reads s).events.settings = s.events.settings :=
  takeReads_keeps (·.events.settings = s.events.settings)
    (fun t r ht => (takeRead_settings t r).trans ht) reads s rfl

@[simp] theorem meetFrameEnd_settings : (meetFrameEnd s).events.settings = s.events.settings :=
  endFrame_settings _ (fun t => takeReads_settings t _) (fun t => takeReads_settings t _)

@[simp] theorem takeTrigger_settings : (takeTrigger s).events.settings = s.events.settings := by
  rcases takeTrigger_cases s with h | ⟨-, h⟩ | ⟨-, -, h | h⟩ <;> rw [h]
  · exact frameStartMeeting_settings s fun _ => rfl
  · exact events_raise_settings ..

/-! ### Ticks and FTRIG -/

theorem lateStep_settings (x : LateStep) : (lateStep s x).events.settings = s.events.settings :=
  lateStep_keeps (·.events.settings = s.events.settings) (fun t n ht => (lateCount_settings t n).trans ht)
    (fun t ht _ => (takeAndRelease_settings t).trans ht) (fun t ht _ => (meetFrameEnd_settings t).trans ht)
    s x rfl

theorem tickTimerFirst_settings :
    (tickTimerFirst finishItem s).events.settings = s.events.settings :=
  tickTimerFirst_keeps (·.events.settings = s.events.settings) finishItem
    (fun n it o t ht => (finishItem_settings t n it o).trans ht) s rfl
    fun _ => takeTrigger_settings (takeTick (takeMeeting s))

theorem tickTaken_settings : (tickTaken s).events.settings = s.events.settings :=
  foldl_keeps (·.events.settings = s.events.settings) lateStep (nextMeeting s).late
    (fun t x _ ht => (lateStep_settings t x).trans ht) _ (tickTimerFirst_settings s)

theorem tickLaneFirst_settings (n : Fin 4) :
    (tickLaneFirst n s).events.settings = s.events.settings :=
  tickLaneFirst_keeps (·.events.settings = s.events.settings)
    (fun n it o t ht => (finishItem_settings t n it o).trans ht) n s rfl (fun _ => rfl)
    (fun t m ht => (lateCount_settings t m).trans ht) (fun t ht _ => (takeAndRelease_settings t).trans ht)
    (fun t ht _ => (meetFrameEnd_settings t).trans ht) fun t ht => (takeTrigger_settings t).trans ht

theorem sampleFtrig_settings (level : Bool) :
    (sampleFtrig level s).events.settings = s.events.settings := by
  simp only [sampleFtrig]
  split
  · rw [takeTrigger_settings]
  · rfl

/-! ### The mirror port -/

theorem mirrorReadSlot_events (command b : Byte) : (mirrorReadSlot command b s).events = s.events := by
  unfold mirrorReadSlot
  split <;> rfl

@[simp] theorem performRequest_settings : (performRequest s).events.settings = s.events.settings := by
  simp only [performRequest]
  split_ifs
  · rw [mirrorReadSlot_events]
  · rw [mirrorReadSlot_events]
  · rfl
  · rfl
  · rfl
  · exact events_raise_settings ..
  · rfl

@[simp] theorem requestComplete_settings : (requestComplete s).events.settings = s.events.settings :=
  performRequest_settings _

theorem receiveRequest_settings (command argument : Byte) :
    (receiveRequest command argument s).events.settings = s.events.settings := by
  rcases receiveRequest_cases command argument s with h | ⟨-, -, h⟩ <;> rw [h]
  rw [requestComplete_settings, setMirror_events]

@[simp] theorem captureBit_settings (bit : Bool) :
    (captureBit bit s).events.settings = s.events.settings := by
  simp only [captureBit]
  split
  · exact requestComplete_settings _
  · rfl

@[simp] theorem endPeriod_events : (endPeriod s).events = s.events := by
  unfold endPeriod
  split <;> rfl

theorem leadingEdge_settings (bit : Bool) :
    (leadingEdge bit s).events.settings = s.events.settings := by
  simp only [leadingEdge]
  split <;> simp

theorem trailingEdge_settings (bit : Bool) :
    (trailingEdge bit s).events.settings = s.events.settings := by
  simp only [trailingEdge]
  split <;> simp

theorem mclkSample_settings (level mdi : Bool) :
    (mclkSample level mdi s).events.settings = s.events.settings := by
  simp only [mclkSample]
  split_ifs
  · rw [leadingEdge_settings, setMirror_events]
  · rw [trailingEdge_settings, setMirror_events]
  · rfl
  · rfl

theorem nextRunRecord_events : (nextRunRecord s).events = s.events := by
  simp only [nextRunRecord]
  split <;> rfl

/-! ### The rows of the events -/

section
variable {f : State → State} (hf : ∀ t, (f t).events.settings = t.events.settings)
include hf

theorem when_settings (p : State → Bool) (t : State) : (when p f t).events.settings = t.events.settings := by
  unfold when
  split
  · exact hf t
  · rfl

theorem running_settings : (stateOf s (running f s)).events.settings = s.events.settings := by
  unfold running whenRunning
  cases h : s.inReset with
  | true => rfl
  | false => exact hf s

end

/-- No event of the device reaches the settings; a row that is no event is none here. -/
theorem eventRow_settings (c : Instr) : (eventRow s c).events.settings = s.events.settings := by
  cases c with
  | tick => exact running_settings s tickTaken_settings
  | timerExpiry => exact running_settings s (when_settings tickTaken_settings _)
  | readyTimeout n => exact running_settings s (when_settings (tickLaneFirst_settings · n) _)
  | pauseExpiry n => exact running_settings s (when_settings (tickLaneFirst_settings · n) _)
  | ftrigEdge level => exact running_settings s (sampleFtrig_settings · level)
  | heldQueueRelease => exact running_settings s (when_settings takeAndRelease_settings _)
  | frameEnd => exact running_settings s (when_settings meetFrameEnd_settings _)
  | readySeen n rdy => exact running_settings s fun t => congrArg _ (sampleReady_events t n rdy)
  | shiftEnd n din => exact running_settings s (endShifting_settings · n din)
  | gapEnd n => exact running_settings s (endGap_settings · n)
  | mselAssert mclk =>
    exact running_settings s
      (when_settings (f := fun t => setMirror (t.mirror.assertSelect mclk) t) (fun _ => rfl) _)
  | mselDeassert =>
    exact running_settings s
      (when_settings (f := fun t => setMirror t.mirror.releaseSelect t) (fun _ => rfl) _)
  | readSlot slot => exact running_settings s (receiveRequest_settings · _ slot)
  | readRun slot => exact running_settings s (receiveRequest_settings · _ slot)
  | readRunNextRecord =>
    exact running_settings s (when_settings (fun t => congrArg _ (nextRunRecord_events t)) _)
  | readState => exact running_settings s (receiveRequest_settings · _ _)
  | peekAlert => exact running_settings s (receiveRequest_settings · _ _)
  | ackAlert serial => exact running_settings s (receiveRequest_settings · _ serial)
  | postNote note => exact running_settings s (receiveRequest_settings · _ note)
  | mirrorUnknownCommand command =>
    exact running_settings s (when_settings (receiveRequest_settings · command _) _)
  | mclkEdge level mdi => exact running_settings s (mclkSample_settings · level mdi)
  | _ => rfl

/-! ### SOFT_RESET (R142) -/

theorem meetSoftReset_settings (m : Meeting) :
    (meetSoftReset m s).events.settings = s.events.settings :=
  meetSoftReset_keeps (·.events.settings = s.events.settings) m s
    (fun t c ht => (eventRow_settings t c).trans ht) (fun _ _ ht => ht) rfl

theorem commandSoftReset_threshold : (commandSoftReset s).events.threshold = 0 := rfl

/-- Neither the reset nor an event that meets it reaches the polarity. -/
theorem commandSoftReset_irqActiveHigh :
    (commandSoftReset s).events.irqActiveHigh = s.events.irqActiveHigh :=
  congrArg EventSettings.irqActiveHigh (meetSoftReset_settings s (nextMeeting s))

end

theorem exec_softReset {s : State} (h : Running s) : exec .softReset s = .next (commandSoftReset s) :=
  running_eq_next h commandSoftReset

/-! ### EV_THRESH (R131) -/

theorem exec_evThreshWrite {s : State} (h : Running s) (v : Word) :
    exec (.evThreshWrite v) s = .next (writeThreshold v s) :=
  running_eq_next h (writeThreshold v)

theorem writeThreshold_eq (v : Word) (s : State) :
    writeThreshold v s = { s with events := { s.events with
      threshold := v.setWidth 3, irqActiveHigh := v.getLsbD 8 } } := by
  rw [writeThreshold, field, ← BitVec.setWidth_eq_extractLsb' (by omega)]

/-- The polarity stands at bit 8 of the word, the threshold in its low three bits. -/
theorem threshWord_eq (e : Events) :
    e.threshWord = BitVec.ofNat 16 (e.threshold.toNat + 256 * e.irqActiveHigh.toNat) := by
  apply BitVec.eq_of_toNat_eq
  rw [Events.threshWord, BitVec.toNat_append, ← Nat.shiftLeft_add_eq_or_of_lt e.threshold.isLt,
    BitVec.toNat_ofNat]
  have hsmall := e.threshold.isLt
  cases e.irqActiveHigh <;> simp [flag] <;> omega

/-- No level is above 7 (R129). -/
theorem irqActive_of_threshold_max {s : State} (h : s.events.threshold = 7) : irqActive s = false := by
  refine eq_false_of_ne_true fun hactive => ?_
  obtain ⟨n, hn⟩ := (irqActive_iff s).1 hactive
  obtain ⟨-, -, habove, -⟩ := (isEligible_iff s n).1 hn
  have hlevel := (s.events.sources[n]).level.isLt
  rw [h] at habove
  exact absurd habove (Nat.not_lt_of_le (Nat.le_of_lt_succ hlevel))

/-- Settles O32: the settings that the write leaves, and those that each reset leaves. -/
theorem evThreshold : Obligations.EvThreshold := by
  intro v s hs
  refine ⟨?written, threshWord_eq s.events, irqActive_of_threshold_max, ?powerOnReset, ?softReset⟩
  case written => rw [exec_evThreshWrite hs, writeThreshold_eq]
  case powerOnReset => exact ⟨powerOn s, rfl, rfl, rfl⟩
  case softReset =>
    exact ⟨commandSoftReset s, exec_softReset hs, commandSoftReset_threshold s,
      commandSoftReset_irqActiveHigh s⟩

end Sys2Proof.Machine
end

section
/-! Proofs about the host window: the access-error latch, the writes of TABLE_SEL and TABLE_ADDR, and the table
port, which only the host's accesses of it and power-on reset reach. -/

namespace Sys2Proof.Machine

/-! ### The access-error latch (R171, R173) -/

/-- An empty latch records the access and where the table port stands (R171). -/
theorem accessError_of_empty {s : State} (h : s.window.accessError = none) (err : AccessError)
    (addr : BitVec 5) (isWrite : Bool) :
    accessError err addr isWrite s = { s with
      window := { s.window with
        accessError := some {
          error := err, addr := addr, isWrite := isWrite, tableSel := s.window.tableSel
          tableAddrLow := s.window.tableAddr.setWidth 13 }
        accessRepeat := false }
      events := s.events.raise srcAccessError } := by
  rw [BitVec.setWidth_eq_extractLsb' (by omega)]
  simp only [accessError, h, raise]

/-- A full latch keeps what it holds and sets the repeat flag (R171). -/
theorem accessError_of_full {s : State} (h : s.window.accessError ≠ none) (err : AccessError)
    (addr : BitVec 5) (isWrite : Bool) :
    accessError err addr isWrite s = { s with
      window := { s.window with accessRepeat := true }, events := s.events.raise srcAccessError } := by
  obtain ⟨r, hr⟩ := Option.ne_none_iff_exists'.1 h
  simp only [accessError, hr, raise]

theorem accessErrorWord_of_empty {w : Window} (h : w.accessError = none) : w.accessErrorWord = 0 := by
  simp only [Window.accessErrorWord, h]

theorem accessDetailWord_of_empty {w : Window} (h : w.accessError = none) : w.accessDetailWord = 0 := by
  simp only [Window.accessDetailWord, h]

theorem exec_accessErrWrite {s : State} (h : Running s) (v : Word) :
    exec (.accessErrWrite v) s = .next (clearAccessError s) :=
  running_eq_next h clearAccessError

/-- Settles O43: the latch is empty or full when a refused access reaches it, and the write of ACCESS_ERR
leaves it empty, where both of its words read 0. -/
theorem accessErrors : Obligations.AccessErrors := by
  refine ⟨fun err addr isWrite s => ⟨?_, ?_, rfl⟩, fun v s hs => ⟨exec_accessErrWrite hs v, ?_⟩⟩
  · exact fun hempty => accessError_of_empty hempty err addr isWrite
  · exact fun hfull => accessError_of_full hfull err addr isWrite
  · exact fun t hempty => ⟨accessErrorWord_of_empty hempty, accessDetailWord_of_empty hempty⟩

/-! ### Writes of TABLE_SEL and TABLE_ADDR (R163) -/

theorem exec_tableSelWrite {s : State} (h : Running s) (v : Word) :
    exec (.tableSelWrite v) s = .next (writeTableSel v s) :=
  running_eq_next h (writeTableSel v)

theorem exec_registerWrite {s : State} (h : Running s) (a : BitVec 5) (v : Word) :
    exec (.registerWrite a v) s = .next (writeRegister a v s) :=
  running_eq_next h (writeRegister a v)

/-- The selector values of 9.3 are the codes of the tables. -/
theorem selector_eq_code {v : Word} {t : Table}
    (h : (v.toNat, t) ∈ [(0, Table.staged), (1, .active), (2, .slotConfig), (3, .laneConfig),
      (4, .sourceConfig), (5, .reports), (6, .latches)]) : v.toNat = t.code.toNat := by
  simp only [List.mem_cons, Prod.mk.injEq, List.not_mem_nil, or_false] at h
  rcases h with ⟨hv, rfl⟩ | ⟨hv, rfl⟩ | ⟨hv, rfl⟩ | ⟨hv, rfl⟩ | ⟨hv, rfl⟩ | ⟨hv, rfl⟩ | ⟨hv, rfl⟩ <;> exact hv

theorem tableOfSelector_of_code {v : Word} {t : Table} (h : v.toNat = t.code.toNat) :
    tableOfSelector v = some t := by
  unfold tableOfSelector
  rw [h]
  cases t <;> rfl

theorem tableOfSelector_of_le {v : Word} (h : 7 ≤ v.toNat) : tableOfSelector v = none := by
  unfold tableOfSelector
  split
  case h_8 => rfl
  all_goals omega

theorem writeTableSel_of_code {v : Word} {t : Table} (h : v.toNat = t.code.toNat) (s : State) :
    writeTableSel v s = { s with window := { s.window with tableSel := t } } := by
  simp only [writeTableSel, tableOfSelector_of_code h]

theorem writeTableSel_of_le {v : Word} (h : 7 ≤ v.toNat) (s : State) :
    writeTableSel v s = refuseWrite .badValue 0x0B s := by
  simp only [writeTableSel, tableOfSelector_of_le h]

/-- TABLE_SEL reads as the number of the selected table. -/
theorem registerWord_tableSel_of_code {v : Word} {s : State}
    (h : v.toNat = s.window.tableSel.code.toNat) : registerWord 0x0B s = v := by
  refine BitVec.eq_of_toNat_eq ((BitVec.toNat_setWidth_of_le ?_).trans h.symm)
  omega

/-! ### What keeps the table port -/

/-- Where the table port stands: the table that TABLE_SEL names, and TABLE_ADDR. -/
structure TablePort where
  sel  : Table
  addr : Word

def Window.port (w : Window) : TablePort := ⟨w.tableSel, w.tableAddr⟩

/-- An operation that leaves TABLE_SEL and TABLE_ADDR as they are. -/
def KeepsPort (f : State → State) : Prop := ∀ s, (f s).window.port = s.window.port

namespace KeepsPort

variable {f g : State → State}

/-- What reaches none of the blocks of `Still` does not reach the window. -/
theorem of_still (h : ∀ s, (f s).still = s.still) : KeepsPort f :=
  fun s => congrArg (fun b => b.window.port) (h s)

theorem comp (hg : KeepsPort g) (hf : KeepsPort f) : KeepsPort fun s => g (f s) :=
  fun s => (hg (f s)).trans (hf s)

theorem carry (hf : KeepsPort f) {p : TablePort} (s : State) (h : s.window.port = p) :
    (f s).window.port = p := (hf s).trans h

theorem foldl {α : Type} {f : State → α → State} (h : ∀ a, KeepsPort (f · a)) (l : List α) :
    KeepsPort (l.foldl f ·) :=
  fun s => foldl_keeps (·.window.port = s.window.port) f l (fun t a _ => (h a).carry t) s rfl

theorem when (hf : KeepsPort f) (p : State → Bool) : KeepsPort (when p f) := by
  intro s
  unfold Machine.when
  split
  · exact hf s
  · rfl

theorem running (hf : KeepsPort f) (s : State) :
    (stateOf s (running f s)).window.port = s.window.port := by
  unfold Machine.running whenRunning
  cases h : s.inReset with
  | true => rfl
  | false => exact hf s

/-- A host read changes beside its effect only the word last read. -/
theorem hostRead (hf : KeepsPort f) (a : BitVec 5) : KeepsPort (hostRead a f) := hf

end KeepsPort

theorem accessError_keepsPort (err : AccessError) (addr : BitVec 5) (isWrite : Bool) :
    KeepsPort (accessError err addr isWrite) := by
  intro s
  cases h : s.window.accessError with
  | none => rw [accessError_of_empty h]; rfl
  | some r => rw [accessError_of_full (by simp [h])]; rfl

theorem refuseWrite_keepsPort (err : AccessError) (addr : BitVec 5) : KeepsPort (refuseWrite err addr) :=
  accessError_keepsPort err addr true

/-! ### Lanes and the walk keep the port -/

theorem finishItem_keepsPort (n : Fin 4) (it : Item) (o : ItemOutcome) : KeepsPort (finishItem n it o) :=
  .of_still (finishItem_still · n it o)

theorem settleItem_keepsPort (n : Fin 4) (it : Item) (o : ItemOutcome) : KeepsPort (settleItem n it o) :=
  .of_still (settleItem_still · n it o)

theorem runWalk_keepsPort : KeepsPort runWalk := .of_still runWalk_still

theorem abortLane_keepsPort (n : Fin 4) : KeepsPort (abortLane · n) := .of_still (abortLane_still · n)

section
variable {ending : Ending} (hending : ∀ n it o, KeepsPort (ending n it o))
include hending

theorem endGap_keepsPort (n : Fin 4) : KeepsPort (endGap ending n) := by
  intro s
  rcases endGap_cases ending n s with ⟨it, o, -, h⟩ | h <;> rw [h]
  exact hending n it o s

theorem endShifting_keepsPort (n : Fin 4) (din : BitVec 64) : KeepsPort (endShifting ending n din) := by
  intro s
  rcases endShifting_cases ending n din s with ⟨it, -, o, -, ⟨-, h⟩ | ⟨-, h⟩⟩ | h <;> rw [h]
  · exact hending n it o _
  · rfl

theorem lateCount_keepsPort (n : Fin 4) : KeepsPort (lateCount ending · n) := by
  intro s
  show (lateCount ending s n).window.port = s.window.port
  rcases lateCount_cases ending s n with
    h | ⟨it, -, ⟨-, h⟩ | ⟨-, h⟩⟩ | ⟨it, -, ⟨-, h⟩ | ⟨-, h⟩⟩ <;> rw [h]
  · rfl
  · exact hending n it _ _
  · rfl
  · exact hending n it _ _

end

theorem sampleReady_keepsPort (n : Fin 4) (rdy : Bool) : KeepsPort (sampleReady n rdy) := by
  intro s
  unfold sampleReady
  split
  · split <;> rfl
  all_goals rfl

theorem releaseHeld_keepsPort : KeepsPort releaseHeld := by
  intro s
  unfold releaseHeld
  split
  next k _ =>
    exact (runWalk_keepsPort _).trans (KeepsPort.of_still (issueEntry_still · k (heldEntry s)) s)
  next => rfl

theorem takeAndRelease_keepsPort : KeepsPort takeAndRelease := fun s =>
  (releaseHeld_keepsPort.when releaseDue _).trans
    (KeepsPort.of_still (settleLane_still · (heldEntry s).lane) s)

/-! ### Frames and triggers keep the port -/

theorem swapIfPending_keepsPort : KeepsPort swapIfPending :=
  fun s => congrArg Window.port (swapIfPending_window s)

section
variable {meet : State → State} (hmeet : KeepsPort meet)
include hmeet

theorem frameStartMeeting_keepsPort : KeepsPort (frameStartMeeting meet) := fun s =>
  (runWalk_keepsPort _).trans (hmeet.comp swapIfPending_keepsPort s)

theorem enterStoppedMeeting_keepsPort : KeepsPort (enterStoppedMeeting meet) :=
  fun _ => hmeet.comp swapIfPending_keepsPort _

end

theorem enterStopped_keepsPort : KeepsPort enterStopped := enterStoppedMeeting_keepsPort fun _ => rfl

theorem endFrame_keepsPort {first second : State → State} (hfirst : KeepsPort first)
    (hsecond : KeepsPort second) : KeepsPort (endFrame first second) := by
  intro s
  have hended : (first (raise srcFrameEnd { s with ctrl := s.ctrl.closeReport })).window.port =
      s.window.port := hfirst _
  simp only [endFrame]
  split
  · exact (enterStoppedMeeting_keepsPort hsecond).carry _ hended
  · split
    · exact (frameStartMeeting_keepsPort hsecond).carry _ hended
    · exact hsecond.carry _ hended

theorem takeReads_keepsPort (reads : List EventRead) : KeepsPort (takeReads reads) :=
  KeepsPort.foldl (fun r s => congrArg (·.window.port) (takeRead_eq s r)) reads

theorem meetFrameEnd_keepsPort : KeepsPort meetFrameEnd := fun s =>
  endFrame_keepsPort (takeReads_keepsPort _) (takeReads_keepsPort _) (takeMeeting s)

theorem takeTrigger_keepsPort : KeepsPort takeTrigger := by
  intro s
  rcases takeTrigger_cases s with h | ⟨-, h⟩ | ⟨-, -, h | h⟩ <;> rw [h]
  · exact frameStartMeeting_keepsPort (fun _ => rfl) s
  · rfl

theorem stopWaiting_keepsPort (tickFirst : Bool) : KeepsPort (stopWaiting tickFirst) := by
  intro s
  unfold stopWaiting
  split
  · exact takeTrigger_keepsPort.comp enterStopped_keepsPort _
  · exact enterStopped_keepsPort s

/-! ### Ticks and FTRIG keep the port -/

theorem tickTimerFirst_keepsPort {ending : Ending} (hending : ∀ n it o, KeepsPort (ending n it o)) :
    KeepsPort (tickTimerFirst ending) := fun s =>
  tickTimerFirst_keeps (·.window.port = s.window.port) ending (fun n it o => (hending n it o).carry) s rfl
    fun _ => takeTrigger_keepsPort (takeTick (takeMeeting s))

theorem lateStep_keepsPort (x : LateStep) : KeepsPort (lateStep · x) := fun s =>
  lateStep_keeps (·.window.port = s.window.port)
    (fun t n => (lateCount_keepsPort finishItem_keepsPort n).carry t)
    (fun t ht _ => takeAndRelease_keepsPort.carry t ht) (fun t ht _ => meetFrameEnd_keepsPort.carry t ht)
    s x rfl

theorem tickTaken_keepsPort : KeepsPort tickTaken := fun s =>
  (KeepsPort.foldl lateStep_keepsPort _ _).trans (tickTimerFirst_keepsPort finishItem_keepsPort s)

theorem tickLaneFirst_keepsPort (n : Fin 4) : KeepsPort (tickLaneFirst n) := fun s =>
  tickLaneFirst_keeps (·.window.port = s.window.port) (fun m it o => (finishItem_keepsPort m it o).carry)
    n s rfl (fun _ => rfl) (fun t m => (lateCount_keepsPort finishItem_keepsPort m).carry t)
    (fun t ht _ => takeAndRelease_keepsPort.carry t ht) (fun t ht _ => meetFrameEnd_keepsPort.carry t ht)
    takeTrigger_keepsPort.carry

theorem sampleFtrig_keepsPort (level : Bool) : KeepsPort (sampleFtrig level) := by
  intro s
  simp only [sampleFtrig]
  split
  · exact takeTrigger_keepsPort _
  · rfl

/-! ### The mirror port keeps the table port -/

theorem mirrorReadSlot_keepsPort (command b : Byte) : KeepsPort (mirrorReadSlot command b) := by
  intro s
  unfold mirrorReadSlot
  split <;> rfl

theorem performRequest_keepsPort : KeepsPort performRequest := by
  intro s
  simp only [performRequest]
  split_ifs
  · exact mirrorReadSlot_keepsPort ..
  · exact mirrorReadSlot_keepsPort ..
  all_goals rfl

theorem requestComplete_keepsPort : KeepsPort requestComplete := fun _ => performRequest_keepsPort _

theorem receiveRequest_keepsPort (command argument : Byte) : KeepsPort (receiveRequest command argument) := by
  intro s
  rcases receiveRequest_cases command argument s with h | ⟨-, -, h⟩ <;> rw [h]
  exact requestComplete_keepsPort _

theorem captureBit_keepsPort (bit : Bool) : KeepsPort (captureBit bit) := by
  intro s
  simp only [captureBit]
  split
  · exact requestComplete_keepsPort _
  · rfl

theorem endPeriod_keepsPort : KeepsPort endPeriod := by
  intro s
  unfold endPeriod
  split <;> rfl

theorem leadingEdge_keepsPort (bit : Bool) : KeepsPort (leadingEdge bit) := by
  intro s
  simp only [leadingEdge]
  split
  · rfl
  · exact captureBit_keepsPort bit _

theorem trailingEdge_keepsPort (bit : Bool) : KeepsPort (trailingEdge bit) := by
  intro s
  simp only [trailingEdge]
  split
  · exact endPeriod_keepsPort.comp (captureBit_keepsPort bit) _
  · exact endPeriod_keepsPort _

theorem mclkSample_keepsPort (level mdi : Bool) : KeepsPort (mclkSample level mdi) := by
  intro s
  simp only [mclkSample]
  split_ifs
  · exact leadingEdge_keepsPort mdi _
  · exact trailingEdge_keepsPort mdi _
  · rfl
  · rfl

theorem nextRunRecord_keepsPort : KeepsPort nextRunRecord := by
  intro s
  simp only [nextRunRecord]
  split <;> rfl

/-! ### Events keep the port -/

/-- No event of the device reaches the table port; a row that is no event is none here. -/
theorem eventRow_keepsPort (c : Instr) : KeepsPort (eventRow · c) := by
  cases c with
  | tick => exact tickTaken_keepsPort.running
  | timerExpiry => exact (tickTaken_keepsPort.when _).running
  | readyTimeout n => exact ((tickLaneFirst_keepsPort n).when _).running
  | pauseExpiry n => exact ((tickLaneFirst_keepsPort n).when _).running
  | ftrigEdge level => exact (sampleFtrig_keepsPort level).running
  | heldQueueRelease => exact (takeAndRelease_keepsPort.when _).running
  | frameEnd => exact (meetFrameEnd_keepsPort.when _).running
  | readySeen n rdy => exact (sampleReady_keepsPort n rdy).running
  | shiftEnd n din => exact (endShifting_keepsPort finishItem_keepsPort n din).running
  | gapEnd n => exact (endGap_keepsPort finishItem_keepsPort n).running
  | mselAssert mclk =>
    exact (KeepsPort.when (f := fun t => setMirror (t.mirror.assertSelect mclk) t) (fun _ => rfl) _).running
  | mselDeassert =>
    exact (KeepsPort.when (f := fun t => setMirror t.mirror.releaseSelect t) (fun _ => rfl) _).running
  | readSlot slot => exact (receiveRequest_keepsPort _ slot).running
  | readRun slot => exact (receiveRequest_keepsPort _ slot).running
  | readRunNextRecord => exact (nextRunRecord_keepsPort.when _).running
  | readState => exact (receiveRequest_keepsPort _ _).running
  | peekAlert => exact (receiveRequest_keepsPort _ _).running
  | ackAlert serial => exact (receiveRequest_keepsPort _ serial).running
  | postNote note => exact (receiveRequest_keepsPort _ note).running
  | mirrorUnknownCommand command => exact ((receiveRequest_keepsPort command _).when _).running
  | mclkEdge level mdi => exact (mclkSample_keepsPort level mdi).running
  | _ => exact fun _ => rfl

theorem laneEnd_keepsPort (e : LaneEnd) : KeepsPort (laneEnd · e) := fun s =>
  laneEnd_keeps (·.window.port = s.window.port) (fun n it o => (settleItem_keepsPort n it o).carry)
    (fun _ _ _ ht => ht) (fun _ ht => ht) takeTrigger_keepsPort.carry (fun _ ht => ht)
    (fun t n => (lateCount_keepsPort settleItem_keepsPort n).carry t) s e rfl

theorem abortStep_keepsPort (x : AbortStep) : KeepsPort (abortStep · x) := fun s =>
  abortStep_keeps (·.window.port = s.window.port) (fun t e => (laneEnd_keepsPort e).carry t)
    (fun t n => (abortLane_keepsPort n).carry t) s x rfl

/-! ### Commands keep the port -/

theorem setResult_keepsPort (r : CmdResult) (i : Fin 64) : KeepsPort (setResult r i) := fun _ => rfl

theorem commandStart_keepsPort : KeepsPort commandStart := by
  intro s
  unfold commandStart
  split <;> rfl

theorem commandStop_keepsPort : KeepsPort commandStop := by
  intro s
  unfold commandStop
  refine (setResult_keepsPort ..).trans ?_
  split
  · rfl
  · exact stopWaiting_keepsPort _ (takeMeeting s)
  · rfl

theorem commandAbort_keepsPort : KeepsPort commandAbort := by
  intro s
  have hbefore : ((nextMeeting s).before.foldl laneEnd (takeMeeting s)).window.port = s.window.port :=
    KeepsPort.foldl laneEnd_keepsPort _ (takeMeeting s)
  simp only [commandAbort]
  refine (setResult_keepsPort ..).trans ?_
  split
  · exact hbefore
  · exact (stopWaiting_keepsPort _).carry _ hbefore
  · exact ((KeepsPort.foldl abortLane_keepsPort allLanes).comp
      (KeepsPort.foldl abortStep_keepsPort _)).carry _ hbefore

theorem commandTrigger_keepsPort : KeepsPort commandTrigger := takeTrigger_keepsPort

theorem commandCommit_keepsPort : KeepsPort commandCommit := by
  intro s
  unfold commandCommit
  split
  · rfl
  · split
    · rfl
    · split <;> rfl

theorem commandClearLane_keepsPort : KeepsPort commandClearLane := by
  intro s
  unfold commandClearLane
  split <;> rfl

theorem commandClearSlot_keepsPort : KeepsPort commandClearSlot := by
  intro s
  unfold commandClearSlot
  split <;> rfl

theorem meetSoftReset_keepsPort (m : Meeting) : KeepsPort (meetSoftReset m) := fun s =>
  meetSoftReset_keeps (·.window.port = s.window.port) m s (fun t c => (eventRow_keepsPort c).carry t)
    (fun _ _ ht => ht) rfl

/-- A soft reset of the window keeps TABLE_SEL and TABLE_ADDR (R174). -/
theorem commandSoftReset_keepsPort : KeepsPort commandSoftReset := fun s =>
  meetSoftReset_keepsPort (nextMeeting s) s

theorem writeCommand_keepsPort (v : Word) : KeepsPort (writeCommand v) := by
  intro s
  unfold writeCommand
  split
  · exact commandStart_keepsPort s
  · exact commandStop_keepsPort s
  · exact commandAbort_keepsPort s
  · exact commandTrigger_keepsPort s
  · exact commandCommit_keepsPort s
  · rfl
  · exact commandClearLane_keepsPort s
  · exact commandClearSlot_keepsPort s
  · rfl
  · rfl
  · rfl
  · exact commandSoftReset_keepsPort s
  · rfl

/-! ### Host accesses of other registers keep the port -/

theorem claim_keepsPort : KeepsPort claim := fun s => congrArg Window.port (claim_window s)

theorem writeDone_keepsPort (v : Word) : KeepsPort (writeDone v) := by
  intro s
  rcases writeDone_cases v s with ⟨err, h⟩ | ⟨top, rest, -, -, h⟩ <;> rw [h]
  exact refuseWrite_keepsPort err _ s

theorem writeAlertAck_keepsPort (v : Word) : KeepsPort (writeAlertAck v) := by
  intro s
  simp only [writeAlertAck]
  split
  · rfl
  · exact refuseWrite_keepsPort _ _ s

theorem writeSampleSel_keepsPort (slot : Byte) (consume : Bool) : KeepsPort (writeSampleSel slot consume) := by
  intro s
  unfold writeSampleSel
  split
  · exact refuseWrite_keepsPort _ _ s
  · rfl

theorem writeTimerMode_keepsPort (v : Word) : KeepsPort (writeTimerMode v) := by
  intro s
  simp only [writeTimerMode]
  split
  · rfl
  · exact refuseWrite_keepsPort _ _ s

theorem writeTimerDiv_keepsPort (v : Word) : KeepsPort (writeTimerDiv v) := by
  intro s
  unfold writeTimerDiv
  split
  · rfl
  · exact refuseWrite_keepsPort _ _ s

/-- The registers of the table port: TABLE_SEL, TABLE_ADDR and TABLE_DATA. -/
def isPortRegister (a : BitVec 5) : Bool := decide (a = 0x0B) || decide (a = 0x0C) || decide (a = 0x0D)

theorem isPortRegister_iff (a : BitVec 5) :
    isPortRegister a = true ↔ a = 0x0B ∨ a = 0x0C ∨ a = 0x0D := by
  simp [isPortRegister, or_assoc]

theorem writeRegister_keepsPort {a : BitVec 5} (ha : isPortRegister a = false) (v : Word) :
    KeepsPort (writeRegister a v) := by
  intro s
  have hother : ¬ (a = 0x0B ∨ a = 0x0C ∨ a = 0x0D) :=
    fun h => ne_true_of_eq_false ha ((isPortRegister_iff a).2 h)
  unfold writeRegister
  split
  next => exact writeCommand_keepsPort v s
  next => rfl
  next => rfl
  next => exact writeTimerMode_keepsPort v s
  next => exact writeTimerDiv_keepsPort v s
  next => rfl
  next hsel => exact absurd (.inl (BitVec.eq_of_toNat_eq hsel)) hother
  next haddr => exact absurd (.inr (.inl (BitVec.eq_of_toNat_eq haddr))) hother
  next hdata => exact absurd (.inr (.inr (BitVec.eq_of_toNat_eq hdata))) hother
  next => exact writeSampleSel_keepsPort _ _ s
  next => exact writeAlertAck_keepsPort v s
  next => exact writeDone_keepsPort v s
  next => rfl
  next => rfl
  next => rfl
  next => exact refuseWrite_keepsPort _ a s

/-! ### Accesses of TABLE_DATA keep the selector (R164) -/

theorem tableSel_of_port {s t : State} (h : t.window.port = s.window.port) :
    t.window.tableSel = s.window.tableSel := congrArg TablePort.sel h

theorem tableAddr_of_port {s t : State} (h : t.window.port = s.window.port) :
    t.window.tableAddr = s.window.tableAddr := congrArg TablePort.addr h

@[simp] theorem refuseWrite_tableSel (err : AccessError) (addr : BitVec 5) (s : State) :
    (refuseWrite err addr s).window.tableSel = s.window.tableSel :=
  tableSel_of_port (refuseWrite_keepsPort err addr s)

theorem tableRead_tableSel (s : State) : (tableRead s).window.tableSel = s.window.tableSel := by
  simp only [tableRead]
  split
  · rw [advanceTable_window]
    split <;> rfl
  · exact tableSel_of_port (accessError_keepsPort _ _ _ s)

theorem writeTableData_tableSel (v : Word) (s : State) :
    (writeTableData v s).window.tableSel = s.window.tableSel := by
  unfold writeTableData
  split
  · split
    next =>
      unfold writeStaged
      split <;> simp
    next => exact refuseWrite_tableSel ..
    next =>
      simp only [writeSlotConfig]
      split <;> simp
    next =>
      simp only [writeLaneConfig]
      split
      · split <;> simp
      · exact refuseWrite_tableSel ..
    next =>
      simp only [writeSourceConfig]
      split <;> simp
    next => exact refuseWrite_tableSel ..
    next => exact refuseWrite_tableSel ..
  · exact refuseWrite_tableSel ..

/-! ### The rows that reach the table port (R163) -/

/-- Power-on reset and the host's accesses of the table port. -/
def isPortRow : Instr → Bool
  | .powerOnReset | .tableSelWrite _ | .tableDataRead | .stagedBankWrite _ | .slotConfigWrite _
  | .laneConfigWrite _ | .sourceConfigWrite _ => true
  | .registerWrite a _ => isPortRegister a
  | _ => false

theorem exec_keepsPort_of_event {c : Instr} (h : isMirrorRow c = true ∨ isInnerEvent c = true) (s : State) :
    (stateOf s (exec c s)).window.port = s.window.port := by
  rw [← eventRow_exec s c h]
  exact eventRow_keepsPort c s

/-- Events, commands, accesses of other registers and the release of the reset keep the port. -/
theorem exec_keepsPort {c : Instr} (hc : isPortRow c = false) (s : State) :
    (stateOf s (exec c s)).window.port = s.window.port := by
  cases c with
  | powerOnReset | tableSelWrite | tableDataRead | stagedBankWrite | slotConfigWrite | laneConfigWrite
  | sourceConfigWrite => exact nomatch hc
  | mselAssert | mselDeassert | readSlot | readRun | readRunNextRecord | readState | peekAlert | ackAlert
  | postNote | mirrorUnknownCommand | mclkEdge => exact exec_keepsPort_of_event (.inl rfl) s
  | timerExpiry | ftrigEdge | heldQueueRelease | frameEnd | readySeen | readyTimeout | shiftEnd | gapEnd
  | pauseExpiry | tick => exact exec_keepsPort_of_event (.inr rfl) s
  | start => exact commandStart_keepsPort.running s
  | stop => exact commandStop_keepsPort.running s
  | abort => exact commandAbort_keepsPort.running s
  | trigger => exact commandTrigger_keepsPort.running s
  | commit => exact commandCommit_keepsPort.running s
  | cancelCommit => exact KeepsPort.running (f := commandCancelCommit) (fun _ => rfl) s
  | clearLane => exact commandClearLane_keepsPort.running s
  | clearSlot => exact commandClearSlot_keepsPort.running s
  | clearOverrun => exact KeepsPort.running (f := commandClearOverrun) (fun _ => rfl) s
  | clearScheduleError => exact KeepsPort.running (f := commandClearScheduleError) (fun _ => rfl) s
  | clearAlertLost => exact KeepsPort.running (f := commandClearAlertLost) (fun _ => rfl) s
  | softReset => exact commandSoftReset_keepsPort.running s
  | undefinedCommandCode v => exact (writeCommand_keepsPort v).running s
  | evClaim => exact (claim_keepsPort.hostRead _).running s
  | evDone v => exact (writeDone_keepsPort v).running s
  | evRaise v => exact KeepsPort.running (f := raise srcSoftware) (fun _ => rfl) s
  | evThreshWrite v => exact KeepsPort.running (f := writeThreshold v) (fun _ => rfl) s
  | hostAlertPeek => exact KeepsPort.running (f := hostRead 0x13 peekAlert) (fun _ => rfl) s
  | alertAck v => exact (writeAlertAck_keepsPort v).running s
  | mirrorNoteRead => exact KeepsPort.running (f := hostRead 0x1F readNote) (fun _ => rfl) s
  | sampleSnapshotConsume slot => exact (writeSampleSel_keepsPort slot true).running s
  | samplePeek slot => exact (writeSampleSel_keepsPort slot false).running s
  | timerModeWrite v => exact (writeTimerMode_keepsPort v).running s
  | timerDivWrite v => exact (writeTimerDiv_keepsPort v).running s
  | timerPeriodWrite v =>
    exact KeepsPort.running (f := fun t => { t with timer := t.timer.writePeriod v }) (fun _ => rfl) s
  | accessErrWrite v => exact KeepsPort.running (f := clearAccessError) (fun _ => rfl) s
  | registerWrite a v => exact (writeRegister_keepsPort hc v).running s
  | resetRelease ftrig mselAsserted =>
    exact KeepsPort.when (f := release ftrig mselAsserted) (fun _ => rfl) _ s

theorem port_of_exec {s t : State} {c : Instr} (hc : isPortRow c = false) (h : exec c s = .next t) :
    t.window.port = s.window.port := by
  have hport := exec_keepsPort hc s
  rwa [h] at hport

/-- The accesses of TABLE_DATA: its read, and its write by its address or by a row of its own. -/
def IsTableData (c : Instr) : Prop :=
  c = .tableDataRead ∨ ∃ v, c = .registerWrite 0x0D v ∨ c = .stagedBankWrite v ∨ c = .slotConfigWrite v ∨
    c = .laneConfigWrite v ∨ c = .sourceConfigWrite v

theorem isPortRow_cases {c : Instr} (h : isPortRow c = true) :
    c = .powerOnReset ∨ (∃ v, c = .tableSelWrite v ∨ c = .registerWrite 0x0B v) ∨
      (∃ v, c = .registerWrite 0x0C v) ∨ IsTableData c := by
  cases c with
  | powerOnReset => exact .inl rfl
  | tableSelWrite v => exact .inr (.inl ⟨v, .inl rfl⟩)
  | tableDataRead => exact .inr (.inr (.inr (.inl rfl)))
  | stagedBankWrite v | slotConfigWrite v | laneConfigWrite v | sourceConfigWrite v =>
    exact .inr (.inr (.inr (.inr ⟨v, by simp⟩)))
  | registerWrite a v =>
    rcases (isPortRegister_iff a).1 h with rfl | rfl | rfl
    · exact .inr (.inl ⟨v, .inr rfl⟩)
    · exact .inr (.inr (.inl ⟨v, rfl⟩))
    · exact .inr (.inr (.inr (.inr ⟨v, .inl rfl⟩)))
  | _ => exact nomatch h

theorem not_isTableData {c : Instr} (hread : c ≠ .tableDataRead) (hregister : ∀ v, c ≠ .registerWrite 0x0D v)
    (hwrite : ∀ v, c ≠ .stagedBankWrite v ∧ c ≠ .slotConfigWrite v ∧ c ≠ .laneConfigWrite v ∧
      c ≠ .sourceConfigWrite v) : ¬ IsTableData c := by
  rintro (h | ⟨v, h⟩)
  · exact hread h
  · obtain ⟨hstaged, hslot, hlane, hsource⟩ := hwrite v
    rcases h with h | h | h | h | h
    · exact hregister v h
    · exact hstaged h
    · exact hslot h
    · exact hlane h
    · exact hsource h

theorem exec_tableDataRead {s : State} (h : Running s) :
    exec .tableDataRead s = .next (hostRead 0x0D tableRead s) :=
  running_eq_next h (hostRead 0x0D tableRead)

/-- The rows of TABLE_DATA writes are one access (log entry 14). -/
theorem exec_tableData {s : State} (hs : Running s) {c : Instr} (hc : IsTableData c) :
    exec c s = .next (hostRead 0x0D tableRead s) ∨ ∃ v, exec c s = .next (writeTableData v s) := by
  rcases hc with rfl | ⟨v, rfl | rfl | rfl | rfl | rfl⟩
  · exact .inl (exec_tableDataRead hs)
  all_goals exact .inr ⟨v, running_eq_next hs (writeTableData v)⟩

theorem tableSel_of_tableData {s t : State} (hs : Running s) {c : Instr} (hc : IsTableData c)
    (h : exec c s = .next t) : t.window.tableSel = s.window.tableSel := by
  rcases exec_tableData hs hc with hread | ⟨v, hwrite⟩
  · cases hread.symm.trans h
    exact tableRead_tableSel s
  · cases hwrite.symm.trans h
    exact writeTableData_tableSel v s

/-- Settles O42: the two writes are `writeTableSel` and `writeRegister`, and of the rows that reach the table
port, the others are the accesses of TABLE_DATA, which keep the selector. -/
theorem tableSelectorAndAddress : Obligations.TableSelectorAndAddress := by
  intro s hs
  refine ⟨?selected, ?refused, exec_registerWrite hs 0x0C, rfl, ?frame⟩
  case selected =>
    intro v t hmem
    have hcode : v.toNat = t.code.toNat := selector_eq_code hmem
    exact ⟨(exec_tableSelWrite hs v).trans (congrArg _ (writeTableSel_of_code hcode s)),
      registerWord_tableSel_of_code hcode⟩
  case refused =>
    intro v hv
    rw [exec_tableSelWrite hs, writeTableSel_of_le hv]
  case frame =>
    intro c t hstep hreset hsel hselRegister
    cases hrow : isPortRow c with
    | false =>
      have hport := port_of_exec hrow hstep
      exact ⟨tableSel_of_port hport, fun _ _ _ _ => tableAddr_of_port hport⟩
    | true =>
      rcases isPortRow_cases hrow with rfl | ⟨v, rfl | rfl⟩ | ⟨v, rfl⟩ | hdata
      · exact absurd rfl hreset
      · exact absurd rfl (hsel v)
      · exact absurd rfl (hselRegister v)
      · cases (exec_registerWrite hs 0x0C v).symm.trans hstep
        exact ⟨rfl, fun haddr => absurd rfl (haddr v)⟩
      · refine ⟨tableSel_of_tableData hs hdata hstep, fun _ hregister hread hwrite => ?_⟩
        exact absurd hdata (not_isTableData hread hregister hwrite)

end Sys2Proof.Machine
end

section
/-! Proofs about what an event can change: each row of the timebase, the lanes and the scan controller is a
chain of small updates, so that a property which every such update keeps is kept by every such row. -/

namespace Sys2Proof.Machine

/-! ### The updates that events make -/

/-- The settings of the timer, which only the host writes (R113, R115, R119). -/
structure TimerSettings where
  divider     : Word
  mode        : TimerMode
  fallingEdge : Bool
  deferPolicy : Bool
  period      : Word

def Timebase.settings (t : Timebase) : TimerSettings :=
  ⟨t.divider, t.mode, t.fallingEdge, t.deferPolicy, t.period⟩

/-- What a completion can leave in its slot: a FRESH value, or a FAULT with its kind (R80, R82). -/
def SlotWritten (r : Slot) : Prop :=
  r.status = .fresh ∧ r.faultKind = none ∨ r.status = .fault ∧ r.faultKind ≠ none

/-- One update that an event of the timebase, the lanes or the scan controller makes. `reads` says whether
host reads may fall among its raises (R139, R175). -/
inductive InnerUpdate (reads : Prop) (s : State) : State → Prop where
  | ctrl (c : Ctrl) (hactive : c.active = s.ctrl.active)
      (hpending : c.commitPending = s.ctrl.commitPending) : InnerUpdate reads s { s with ctrl := c }
  | lanes (l : Vector Lane 4) (hcfg : ∀ n : Fin 4, (l[n]).cfg = (s.lanes[n]).cfg) :
      InnerUpdate reads s { s with lanes := l }
  | raised (n : Fin 16) : InnerUpdate reads s (raise n s)
  | swap (hpending : s.ctrl.commitPending = true) : InnerUpdate reads s (swapBanks s)
  | slot (i : Fin 64) (r : Slot) (h : SlotWritten r) : InnerUpdate reads s (setSlot i r s)
  | post (kind : AlertKind) (i : Fin 64) (q : Word) (v : Value) :
      InnerUpdate reads s (postAlert kind i q v s)
  | timer (m : Timebase) (h : m.settings = s.timer.settings) : InnerUpdate reads s { s with timer := m }
  | meeting : InnerUpdate reads s (takeMeeting s)
  | read (h : reads) (r : EventRead) : InnerUpdate reads s (takeRead s r)

/-- A chain of such updates. -/
abbrev InnerUpdates (reads : Prop) : State → State → Prop := Relation.ReflTransGen (InnerUpdate reads)

/-- What every update keeps, a chain of them keeps. -/
theorem InnerUpdates.keeps {reads : Prop} {P : State → Prop}
    (h : ∀ s t, InnerUpdate reads s t → P s → P t) {s t : State} (hst : InnerUpdates reads s t)
    (hs : P s) : P t := by
  induction hst with
  | refl => exact hs
  | tail _ hlast ih => exact h _ _ hlast ih

/-- An operation that is a chain of updates in every state. -/
def Inner (reads : Prop) (f : State → State) : Prop := ∀ s, InnerUpdates reads s (f s)

namespace Inner

variable {reads : Prop} {f g : State → State}

theorem comp (hg : Inner reads g) (hf : Inner reads f) : Inner reads fun s => g (f s) :=
  fun s => (hf s).trans (hg (f s))

theorem foldl {α : Type} {f : State → α → State} (h : ∀ a, Inner reads (f · a)) (l : List α) :
    Inner reads (l.foldl f ·) :=
  fun s => foldl_keeps (InnerUpdates reads s) f l (fun t a _ ht => ht.trans (h a t)) s .refl

theorem when (hf : Inner reads f) (p : State → Bool) : Inner reads (when p f) := by
  intro s
  unfold Machine.when
  split
  · exact hf s
  · exact .refl

theorem running (hf : Inner reads f) (s : State) : InnerUpdates reads s (stateOf s (running f s)) := by
  unfold Machine.running whenRunning
  cases h : s.inReset with
  | true => exact .refl
  | false => exact hf s

end Inner

section
variable {reads : Prop}

/-! ### Completions and lanes -/

theorem raise_inner (n : Fin 16) : Inner reads (raise n) := fun _ => .single (.raised n)

/-- A change of the scan controller that leaves its fixed part. -/
theorem ctrl_inner {s : State} {c : Ctrl} (h : c.fixed = s.ctrl.fixed) :
    InnerUpdates reads s { s with ctrl := c } :=
  .single (.ctrl c (congrArg CtrlFixed.active h) (congrArg CtrlFixed.commitPending h))

theorem setLane_inner {s : State} {n : Fin 4} {l : Lane} (h : l.cfg = (s.lanes[n]).cfg) :
    InnerUpdates reads s (setLane n l s) := by
  refine .single (.lanes _ fun m => ?_)
  by_cases hm : n = m
  · subst hm
    simpa using h
  · rw [← setLane_lanes, setLane_lanes_ne s n m l hm]

theorem setPhase_inner (n : Fin 4) (p : LanePhase) : Inner reads (setPhase n p) :=
  fun _ => setLane_inner rfl

theorem postIfEnabled_inner (kind : AlertKind) (i : Fin 64) (q : Word) (v : Value) :
    Inner reads (postIfEnabled kind i q v) := by
  intro s
  unfold postIfEnabled
  split
  · exact .single (.post kind i q v)
  · exact .refl

theorem storeSample_inner (i : Fin 64) (v : Value) (q : Word) : Inner reads (storeSample i v q) := by
  intro s
  simp only [storeSample]
  refine .trans ?_ (postIfEnabled_inner _ _ _ _ _)
  refine .tail ?_ (.slot i _ (.inl ⟨rfl, rfl⟩))
  split
  · exact raise_inner _ s
  · exact .refl

theorem faultSample_inner (i : Fin 64) (kind : FaultKind) : Inner reads (faultSample i kind) := fun s =>
  .trans (.single (.slot i _ (.inr ⟨rfl, by simp⟩))) (postIfEnabled_inner _ _ _ _ _)

theorem sampleTake_inner (it : Item) (o : ItemOutcome) : Inner reads (sampleTake it o) := by
  cases o with
  | completed r => exact storeSample_inner _ _ _
  | fault kind => exact faultSample_inner _ kind
  | skipped | aborted => exact fun _ => .refl

theorem raiseLaneFault_inner (n : Fin 4) (o : ItemOutcome) : Inner reads (raiseLaneFault n o) := by
  cases o with
  | fault kind => exact raise_inner _
  | completed | skipped | aborted => exact fun _ => .refl

theorem ctrlTake_inner (it : Item) (o : ItemOutcome) : Inner reads (ctrlTake it o) :=
  fun s => ctrl_inner (ctrlTake_fixed s it o)

theorem complete_inner (n : Fin 4) (it : Item) (o : ItemOutcome) : Inner reads (complete n it o) := by
  refine (ctrlTake_inner it o).comp ((raiseLaneFault_inner n o).comp fun s => ?_)
  split
  · exact sampleTake_inner it o s
  · exact .refl

theorem completeAll_inner (n : Fin 4) (o : ItemOutcome) (l : List Item) :
    Inner reads (completeAll n o l) := .foldl (fun it => complete_inner n it o) l

theorem takeHead_cfg (l : Lane) : l.takeHead.cfg = l.cfg := by
  unfold Lane.takeHead
  split <;> rfl

theorem settleLane_inner (n : Fin 4) : Inner reads (settleLane n) := by
  intro s
  simp only [settleLane]
  split
  · refine .trans ?_ (completeAll_inner ..)
    exact setLane_inner rfl
  · exact setLane_inner (takeHead_cfg _)

theorem settleItem_inner (n : Fin 4) (it : Item) (o : ItemOutcome) : Inner reads (settleItem n it o) := by
  intro s
  refine (complete_inner n it o s).trans (.trans ?_ (settleLane_inner n _))
  exact setLane_inner rfl

theorem enqueue_inner (n : Fin 4) (it : Item) : Inner reads (enqueue n it) := by
  intro s
  refine .trans ?_ (settleLane_inner n _)
  exact setLane_inner rfl

theorem abortLane_inner (n : Fin 4) : Inner reads (abortLane · n) := by
  intro s
  simp only [abortLane]
  split
  · exact .refl
  · exact .refl
  · refine .trans ?_ (completeAll_inner ..)
    exact setLane_inner rfl

/-! ### The walk -/

theorem issueEntry_inner (k : ItemKind) (e : Entry) : Inner reads (issueEntry k e) := by
  intro s
  refine .trans (ctrl_inner ?_) (enqueue_inner ..)
  split
  · rfl
  · exact advance_fixed _

theorem rejectEntry_inner (k : ItemKind) (e : Entry) (why : RejectReason) :
    Inner reads (rejectEntry k e why) :=
  fun s => .trans (ctrl_inner (rejectEntry_fixed s k e why)) (raise_inner srcScheduleError _)

theorem takeDueEntry_inner (k : ItemKind) (e : Entry) : Inner reads (takeDueEntry k e) := by
  intro s
  rcases takeDueEntry_cases k e s with ⟨why, -, h⟩ | ⟨-, -, h⟩ | ⟨-, -, h⟩ <;> rw [h]
  · exact rejectEntry_inner k e why s
  · exact issueEntry_inner k e s
  · exact ctrl_inner rfl

theorem passOver_inner : Inner reads passOver := fun s => ctrl_inner (advance_fixed s.ctrl)

theorem walkEntry_inner : Inner reads walkEntry := by
  intro s
  simp only [walkEntry]
  split
  · split
    · split
      · refine .trans ?_ (passOver_inner _)
        exact ctrl_inner rfl
      · exact takeDueEntry_inner _ _ s
    · exact passOver_inner s
  · split
    · exact ctrl_inner rfl
    · exact passOver_inner s

theorem runWalk_inner : Inner reads runWalk := fun s =>
  runWalk_keeps (InnerUpdates reads s) (fun t _ ht => ht.trans (walkEntry_inner t)) s .refl

theorem finishItem_inner (n : Fin 4) (it : Item) (o : ItemOutcome) : Inner reads (finishItem n it o) :=
  runWalk_inner.comp (settleItem_inner n it o)

theorem takeAndRelease_inner : Inner reads takeAndRelease := by
  refine Inner.comp (f := fun s => settleLane (heldEntry s).lane s) (Inner.when (fun s => ?_) releaseDue)
    fun s => settleLane_inner (heldEntry s).lane s
  unfold releaseHeld
  split
  · exact runWalk_inner.comp (issueEntry_inner _ _) s
  · exact .refl

/-! ### How items end -/

section
variable {ending : Ending} (hending : ∀ n it o, Inner reads (ending n it o))
include hending

theorem endGap_inner (n : Fin 4) : Inner reads (endGap ending n) := by
  intro s
  rcases endGap_cases ending n s with ⟨it, o, -, h⟩ | h <;> rw [h]
  exact hending n it o s

theorem endShifting_inner (n : Fin 4) (din : BitVec 64) : Inner reads (endShifting ending n din) := by
  intro s
  rcases endShifting_cases ending n din s with ⟨it, -, o, -, ⟨-, h⟩ | ⟨-, h⟩⟩ | h <;> rw [h]
  · exact (hending n it o).comp (setPhase_inner n _) s
  · exact setPhase_inner n _ s

theorem lateCount_inner (n : Fin 4) : Inner reads (lateCount ending · n) := by
  intro s
  show InnerUpdates reads s (lateCount ending s n)
  rcases lateCount_cases ending s n with
    h | ⟨it, -, ⟨-, h⟩ | ⟨-, h⟩⟩ | ⟨it, -, ⟨-, h⟩ | ⟨-, h⟩⟩ <;> rw [h]
  · exact setPhase_inner n _ s
  · exact (hending n it _).comp (setPhase_inner n _) s
  · exact setPhase_inner n _ s
  · exact (hending n it _).comp (setPhase_inner n _) s

end

theorem sampleReady_inner (n : Fin 4) (rdy : Bool) : Inner reads (sampleReady n rdy) := by
  intro s
  unfold sampleReady
  split
  · split
    · exact setPhase_inner n _ s
    · exact .refl
  all_goals exact .refl

/-! ### Frames, triggers and ticks -/

theorem swapIfPending_inner : Inner reads swapIfPending := by
  intro s
  rcases swapIfPending_cases s with ⟨hpending, h⟩ | ⟨-, h⟩ <;> rw [h]
  exact .single (.swap hpending)

section
variable {meet : State → State} (hmeet : Inner reads meet)
include hmeet

theorem frameStartMeeting_inner : Inner reads (frameStartMeeting meet) :=
  runWalk_inner.comp ((raise_inner srcFrameStart).comp
    (Inner.comp (f := fun s => meet (swapIfPending s)) (g := fun t => { t with ctrl := t.ctrl.begin })
      (fun _ => .single (.ctrl _ rfl rfl)) (hmeet.comp swapIfPending_inner)))

theorem enterStoppedMeeting_inner : Inner reads (enterStoppedMeeting meet) := by
  refine (raise_inner srcControllerStopped).comp (hmeet.comp (swapIfPending_inner.comp fun s => ?_))
  refine .trans (.single (.timer s.timer.halt rfl)) ?_
  exact .single (.ctrl _ rfl rfl)

end

theorem frameStart_inner : Inner reads frameStart := frameStartMeeting_inner fun _ => .refl

theorem enterStopped_inner : Inner reads enterStopped := enterStoppedMeeting_inner fun _ => .refl

theorem endFrame_inner {first second : State → State} (hfirst : Inner reads first)
    (hsecond : Inner reads second) : Inner reads (endFrame first second) := by
  intro s
  have hclosed : InnerUpdates reads s
      (first (raise srcFrameEnd { s with ctrl := s.ctrl.closeReport })) :=
    .trans (.single (.ctrl s.ctrl.closeReport rfl rfl)) (hfirst.comp (raise_inner srcFrameEnd) _)
  refine hclosed.trans ?_
  simp only [endFrame]
  split
  · exact enterStoppedMeeting_inner hsecond _
  · split
    · refine .trans ?_ (frameStartMeeting_inner hsecond _)
      exact .single (.ctrl _ rfl rfl)
    · refine .trans ?_ (hsecond _)
      exact .single (.ctrl _ rfl rfl)

theorem takeTrigger_inner : Inner reads takeTrigger := by
  intro s
  rcases takeTrigger_cases s with h | ⟨-, h⟩ | ⟨-, -, h | h⟩ <;> rw [h]
  · exact frameStart_inner s
  · exact .single (.ctrl _ rfl rfl)
  · refine .tail ?_ (.raised srcFrameOverrun)
    exact .single (.ctrl _ rfl rfl)

theorem countTick_settings (t : Timebase) : t.countTick.settings = t.settings := by
  unfold Timebase.countTick
  split <;> rfl

theorem afterExpiry_settings (t : Timebase) : t.afterExpiry.settings = t.settings := by
  unfold Timebase.afterExpiry
  split <;> rfl

theorem takeTick_inner : Inner reads takeTick := fun s =>
  .trans (.single (.timer s.timer.nextTick.countTick (countTick_settings s.timer.nextTick)))
    (.single (.lanes (mapLanes Lane.countTick s.lanes) fun n => by simp [Lane.countTick]))

theorem actAtExpiry_inner : Inner reads actAtExpiry :=
  fun s => .single (.timer _ (afterExpiry_settings s.timer))

theorem takeMeeting_inner : Inner reads takeMeeting := fun _ => .single .meeting

theorem stopWaiting_inner (tickFirst : Bool) : Inner reads (stopWaiting tickFirst) := by
  intro s
  unfold stopWaiting
  split
  · exact takeTrigger_inner.comp (enterStopped_inner.comp (actAtExpiry_inner.comp takeTick_inner)) s
  · exact enterStopped_inner s

theorem sampleFtrig_inner (level : Bool) : Inner reads (sampleFtrig level) := by
  intro s
  refine .trans (.single (.timer { s.timer with ftrig := level } rfl)) ?_
  simp only [sampleFtrig]
  split
  · exact takeTrigger_inner _
  · exact .refl

theorem tickTimerFirst_inner {ending : Ending} (hending : ∀ n it o, Inner reads (ending n it o)) :
    Inner reads (tickTimerFirst ending) := fun s =>
  have hcounts : InnerUpdates reads s (takeTick (takeMeeting s)) := takeTick_inner.comp takeMeeting_inner s
  tickTimerFirst_keeps (InnerUpdates reads s) ending (fun n it o t ht => ht.trans (hending n it o t)) s
    hcounts fun _ => hcounts.trans (actAtExpiry_inner.comp takeTrigger_inner _)

/-! ### Events that meet an ABORT -/

theorem laneEnd_inner (e : LaneEnd) : Inner reads (laneEnd · e) := fun s =>
  laneEnd_keeps (InnerUpdates reads s) (fun n it o t ht => ht.trans (settleItem_inner n it o t))
    (fun n p t ht => ht.trans (setPhase_inner n p t)) (fun t ht => ht.trans (takeTick_inner t))
    (fun t ht => ht.trans (actAtExpiry_inner.comp takeTrigger_inner t))
    (fun t ht => ht.trans (takeMeeting_inner t))
    (fun t n ht => ht.trans (lateCount_inner settleItem_inner n t)) s e .refl

theorem abortStep_inner (x : AbortStep) : Inner reads (abortStep · x) := fun s =>
  abortStep_keeps (InnerUpdates reads s) (fun t e ht => ht.trans (laneEnd_inner e t))
    (fun t n ht => ht.trans (abortLane_inner n t)) s x .refl

/-! ### Frame ends, and the rows of a tick, with the reads that meet them -/

/-- Host reads meet no frame end to come, unless `reads` lets them. -/
def ReadsOnlyIf (reads : Prop) (s : State) : Prop :=
  ∀ m ∈ s.meetings, m.afterFrameEnd ≠ [] ∨ m.afterSwap ≠ [] → reads

theorem readsOnlyIf_true (s : State) : ReadsOnlyIf True s := fun _ _ _ => trivial

/-- No update adds a meeting. -/
theorem InnerUpdates.readsOnlyIf {s t : State} (h : InnerUpdates reads s t) (hs : ReadsOnlyIf reads s) :
    ReadsOnlyIf reads t := by
  refine h.keeps (fun u v huv hu => ?_) hs
  cases huv with
  | meeting => exact fun m hm => hu m (List.mem_of_mem_tail hm)
  | post kind i q w => intro m hm; exact hu m (by simpa using hm)
  | read _ r => intro m hm; rw [takeRead_eq] at hm; exact hu m hm
  | ctrl | lanes | raised | swap | slot | timer => exact hu

theorem takeReads_inner {l : List EventRead} (h : l ≠ [] → reads) : Inner reads (takeReads l) := by
  cases l with
  | nil => exact fun _ => .refl
  | cons r l => exact Inner.foldl (fun r _ => .single (.read (h (by simp)) r)) (r :: l)

theorem nextMeeting_readsOnlyIf {s : State} (h : ReadsOnlyIf reads s)
    (hreads : (nextMeeting s).afterFrameEnd ≠ [] ∨ (nextMeeting s).afterSwap ≠ []) : reads := by
  unfold nextMeeting at hreads
  cases hm : s.meetings with
  | nil => simp [hm, Meeting.nothing] at hreads
  | cons m rest =>
    rw [hm] at hreads
    exact h m (by simp [hm]) hreads

theorem meetFrameEnd_inner {s : State} (h : ReadsOnlyIf reads s) :
    InnerUpdates reads s (meetFrameEnd s) :=
  (takeMeeting_inner s).trans (endFrame_inner
    (takeReads_inner fun hne => nextMeeting_readsOnlyIf h (.inl hne))
    (takeReads_inner fun hne => nextMeeting_readsOnlyIf h (.inr hne)) _)

section
variable {s : State} (h : ReadsOnlyIf reads s)
include h

theorem InnerUpdates.lateStep {t : State} (ht : InnerUpdates reads s t) (x : LateStep) :
    InnerUpdates reads s (lateStep t x) :=
  lateStep_keeps (InnerUpdates reads s)
    (fun u n hu => hu.trans (lateCount_inner finishItem_inner n u))
    (fun _ hu _ => hu.trans (takeAndRelease_inner _))
    (fun _ hu _ => hu.trans (meetFrameEnd_inner (hu.readsOnlyIf h))) t x ht

theorem tickTaken_inner : InnerUpdates reads s (tickTaken s) :=
  foldl_keeps (InnerUpdates reads s) Machine.lateStep _ (fun _ x _ ht => ht.lateStep h x) _
    (tickTimerFirst_inner finishItem_inner s)

theorem tickLaneFirst_inner (n : Fin 4) : InnerUpdates reads s (tickLaneFirst n s) :=
  have hcounts : InnerUpdates reads s (takeTick (takeMeeting s)) := takeTick_inner.comp takeMeeting_inner s
  tickLaneFirst_keeps (InnerUpdates reads s) (fun m it o t ht => ht.trans (finishItem_inner m it o t)) n s
    hcounts (fun _ => hcounts.trans (actAtExpiry_inner _))
    (fun t m ht => ht.trans (lateCount_inner finishItem_inner m t))
    (fun t ht _ => ht.trans (takeAndRelease_inner t))
    (fun _ ht _ => ht.trans (meetFrameEnd_inner (ht.readsOnlyIf h)))
    fun t ht => ht.trans (takeTrigger_inner t)

omit h in
theorem stateOf_running_inner {f : State → State} (hf : InnerUpdates reads s (f s)) :
    InnerUpdates reads s (stateOf s (running f s)) := by
  unfold running whenRunning
  split
  · exact .refl
  · exact hf

omit h in
theorem when_inner {p : State → Bool} {f : State → State} (hf : InnerUpdates reads s (f s)) :
    InnerUpdates reads s (when p f s) := by
  unfold when
  split
  · exact hf
  · exact .refl

end

/-- The rows that may take a frame end with them, and so the reads that meet it. -/
def mayEndFrame : Instr → Bool
  | .frameEnd | .tick | .timerExpiry | .readyTimeout _ | .pauseExpiry _ => true
  | _ => false

/-- Every row of the timebase, the lanes and the scan controller is a chain of updates. -/
theorem exec_inner {c : Instr} (hc : isInnerEvent c = true) {s : State}
    (h : mayEndFrame c = true → ReadsOnlyIf reads s) : InnerUpdates reads s (stateOf s (exec c s)) := by
  cases c with
  | tick =>
    have h := h rfl
    exact stateOf_running_inner (tickTaken_inner h)
  | timerExpiry =>
    have h := h rfl
    exact stateOf_running_inner (when_inner (tickTaken_inner h))
  | readyTimeout n =>
    have h := h rfl
    exact stateOf_running_inner (when_inner (tickLaneFirst_inner h n))
  | pauseExpiry n =>
    have h := h rfl
    exact stateOf_running_inner (when_inner (tickLaneFirst_inner h n))
  | frameEnd =>
    have h := h rfl
    exact stateOf_running_inner (when_inner (meetFrameEnd_inner h))
  | ftrigEdge level => exact (sampleFtrig_inner level).running s
  | heldQueueRelease => exact (takeAndRelease_inner.when _).running s
  | readySeen n rdy => exact (sampleReady_inner n rdy).running s
  | shiftEnd n din => exact (endShifting_inner finishItem_inner n din).running s
  | gapEnd n => exact (endGap_inner finishItem_inner n).running s
  | _ => exact nomatch hc

end

end Sys2Proof.Machine
end

section
/-! Proofs about what the rows of the mirror port and of the host can change, and so about every row: each is
answered with a next state that a chain of updates leads to. -/

namespace Sys2Proof.Machine

/-! ### The updates of the mirror port -/

/-- One update that a row of the mirror port makes outside or inside the port: the port itself, a raise, the
acknowledgement of an alert (R152, R153). -/
inductive PortUpdate (s : State) : State → Prop where
  | mirror (m : Mirror) : PortUpdate s (setMirror m s)
  | raised (n : Fin 16) : PortUpdate s (raise n s)
  | acknowledged (serial : Byte) : PortUpdate s { s with alerts := s.alerts.acknowledge serial }

abbrev PortUpdates : State → State → Prop := Relation.ReflTransGen PortUpdate

/-- What every update of the port keeps, a chain of them keeps. -/
theorem PortUpdates.keeps {P : State → Prop} (h : ∀ s t, PortUpdate s t → P s → P t) {s t : State}
    (hst : PortUpdates s t) (hs : P s) : P t := by
  induction hst with
  | refl => exact hs
  | tail _ hlast ih => exact h _ _ hlast ih

/-- An operation of the mirror port. -/
def PortOp (f : State → State) : Prop := ∀ s, PortUpdates s (f s)

namespace PortOp

variable {f g : State → State}

theorem comp (hg : PortOp g) (hf : PortOp f) : PortOp fun s => g (f s) :=
  fun s => (hf s).trans (hg (f s))

theorem when (hf : PortOp f) (p : State → Bool) : PortOp (when p f) := by
  intro s
  unfold Machine.when
  split
  · exact hf s
  · exact .refl

theorem running (hf : PortOp f) (s : State) : PortUpdates s (stateOf s (running f s)) := by
  unfold Machine.running whenRunning
  cases h : s.inReset with
  | true => exact .refl
  | false => exact hf s

/-- The operation on a port that has been replaced. -/
theorem onMirror (hf : PortOp f) (m : Mirror) (s : State) : PortUpdates s (f (setMirror m s)) :=
  .head (.mirror m) (hf _)

end PortOp

/-- A chain of updates, and the port replaced behind it. -/
theorem PortUpdates.setMirror {s t : State} (h : PortUpdates s t) (m : Mirror) :
    PortUpdates s (setMirror m t) := .tail h (.mirror m)

theorem setMirror_op (m : State → Mirror) : PortOp fun s => setMirror (m s) s := fun _ => .single (.mirror _)

theorem mirrorReadSlot_op (command b : Byte) : PortOp (mirrorReadSlot command b) := by
  intro s
  unfold mirrorReadSlot
  split <;> exact .single (.mirror _)

theorem performRequest_op : PortOp performRequest := by
  intro s
  simp only [performRequest]
  split_ifs
  · exact mirrorReadSlot_op _ _ s
  · exact mirrorReadSlot_op _ _ s
  · exact .single (.mirror _)
  · exact .single (.mirror _)
  · exact .trans (.single (.acknowledged s.mirror.argument)) (.single (.mirror _))
  · exact .trans (.single (.mirror _)) (.trans (.single (.raised srcMirrorNote)) (.single (.mirror _)))
  · exact .single (.mirror _)

theorem requestComplete_op : PortOp requestComplete := fun s => performRequest_op.onMirror _ s

theorem receiveRequest_op (command argument : Byte) : PortOp (receiveRequest command argument) := by
  intro s
  rcases receiveRequest_cases command argument s with h | ⟨-, -, h⟩ <;> rw [h]
  exact requestComplete_op.onMirror _ s

theorem captureBit_op (bit : Bool) : PortOp (captureBit bit) := by
  intro s
  simp only [captureBit]
  split
  · exact requestComplete_op.onMirror _ s
  · exact .single (.mirror _)

theorem takeNextRecord_op : PortOp takeNextRecord := fun _ => .single (.mirror _)

theorem endPeriod_op : PortOp endPeriod := by
  intro s
  unfold endPeriod
  split
  · exact takeNextRecord_op s
  · exact .refl

theorem leadingEdge_op (bit : Bool) : PortOp (leadingEdge bit) := by
  intro s
  simp only [leadingEdge]
  split
  · exact .single (.mirror _)
  · exact (captureBit_op bit).onMirror _ s

theorem trailingEdge_op (bit : Bool) : PortOp (trailingEdge bit) := by
  intro s
  simp only [trailingEdge]
  split
  · exact .trans ((captureBit_op bit).onMirror _ s) (endPeriod_op _)
  · exact (endPeriod_op.onMirror _ s).setMirror _

theorem mclkSample_op (level mdi : Bool) : PortOp (mclkSample level mdi) := by
  intro s
  simp only [mclkSample]
  split_ifs
  · exact (leadingEdge_op mdi).onMirror _ s
  · exact (trailingEdge_op mdi).onMirror _ s
  · exact .single (.mirror _)
  · exact .refl

theorem nextRunRecord_op : PortOp nextRunRecord := by
  intro s
  simp only [nextRunRecord]
  split
  · exact takeNextRecord_op.onMirror _ s
  · exact (takeNextRecord_op.onMirror _ s).setMirror _

/-- Every row of the mirror port is a chain of updates of the port. -/
theorem exec_port {c : Instr} (hc : isMirrorRow c = true) (s : State) :
    PortUpdates s (stateOf s (exec c s)) := by
  cases c with
  | mselAssert mclk => exact ((setMirror_op fun t => t.mirror.assertSelect mclk).when _).running s
  | mselDeassert => exact ((setMirror_op fun t => t.mirror.releaseSelect).when _).running s
  | readSlot slot => exact (receiveRequest_op _ slot).running s
  | readRun slot => exact (receiveRequest_op _ slot).running s
  | readRunNextRecord => exact (nextRunRecord_op.when _).running s
  | readState => exact (receiveRequest_op _ _).running s
  | peekAlert => exact (receiveRequest_op _ _).running s
  | ackAlert serial => exact (receiveRequest_op _ serial).running s
  | postNote note => exact (receiveRequest_op _ note).running s
  | mirrorUnknownCommand command => exact ((receiveRequest_op command _).when _).running s
  | mclkEdge level mdi => exact (mclkSample_op level mdi).running s
  | _ => exact nomatch hc

/-! ### The updates of the host -/

/-- The fields of the mirror port that say how far a transaction has come (R143, R146). -/
structure Progress where
  transaction  : Transaction
  bitCount     : Nat
  command      : Byte
  mdo          : Option Bool
  mselAsserted : Bool

def Mirror.progress (m : Mirror) : Progress :=
  ⟨m.transaction, m.bitCount, m.command, m.mdo, m.mselAsserted⟩

/-- One update that a row of the host makes beside those of the events that it brings about. -/
inductive HostUpdate (s : State) : State → Prop where
  | ctrl (c : Ctrl) (hactive : c.active = s.ctrl.active)
      (hpending : c.commitPending = true → s.ctrl.commitPending = true) : HostUpdate s { s with ctrl := c }
  | committed (h : BankSound (stagedBank s)) :
      HostUpdate s { s with ctrl := { s.ctrl with commitPending := true } }
  | swapped (h : BankSound (stagedBank s)) : HostUpdate s (swapBanks s)
  | staged (b : Bank) (h : s.ctrl.commitPending = false) : HostUpdate s (setStagedBank b s)
  | lanes (l : Vector Lane 4) : HostUpdate s { s with lanes := l }
  | samples (t : SampleTable) (h : t.slots = s.samples.slots) : HostUpdate s { s with samples := t }
  | consumed (i : Fin 64) : HostUpdate s (setSlot i (s.samples.slots[i]).consumed s)
  | cleared (i : Fin 64) : HostUpdate s (setSlot i .cleared s)
  | limit (i : Fin 64) (k : Fin 8) (w : Word) (c : SlotConfig) (h : (s.limits[i]).setWord k w = some c) :
      HostUpdate s { s with limits := s.limits.set i.val c i.isLt }
  | alerts (q : AlertQueue) (hrecords : q.records = s.alerts.records)
      (hnext : q.nextSerial = s.alerts.nextSerial) : HostUpdate s { s with alerts := q }
  | acknowledged (serial : Byte) : HostUpdate s { s with alerts := s.alerts.acknowledge serial }
  | timer (m : Timebase) : HostUpdate s { s with timer := m }
  | events (e : Events) (hstack : e.stack = s.events.stack) (hsources : e.sources = s.events.sources) :
      HostUpdate s { s with events := e }
  | done (top : ServiceEntry) (rest : List ServiceEntry) (h : s.events.stack = top :: rest) :
      HostUpdate s { s with events := { s.events with stack := rest } }
  | claimed : HostUpdate s (claim s)
  | source (n : Fin 16) (c : SourceConfig) (h : 1 ≤ c.level.toNat) :
      HostUpdate s { s with events := { s.events with sources := s.events.sources.set n.val c n.isLt } }
  | mirror (m : Mirror) (h : m.progress = s.mirror.progress) : HostUpdate s (setMirror m s)
  | window (w : Window) : HostUpdate s { s with window := w }
  | meetings (l : List Meeting) : HostUpdate s { s with meetings := l }
  | softReset : HostUpdate s (softReset s)

/-- One update of a row that is no reset row: of an event, of a row of the mirror port, or of the host. -/
inductive RowUpdate (s : State) : State → Prop where
  | inner {t : State} (h : InnerUpdate True s t) : RowUpdate s t
  | port (c : Instr) (hc : isMirrorRow c = true) : RowUpdate s (stateOf s (exec c s))
  | host {t : State} (h : HostUpdate s t) : RowUpdate s t

abbrev RowUpdates : State → State → Prop := Relation.ReflTransGen RowUpdate

/-- What every update of a row keeps, a chain of them keeps. -/
theorem RowUpdates.keeps {P : State → Prop} (h : ∀ s t, RowUpdate s t → P s → P t) {s t : State}
    (hst : RowUpdates s t) (hs : P s) : P t := by
  induction hst with
  | refl => exact hs
  | tail _ hlast ih => exact h _ _ hlast ih

theorem InnerUpdates.row {s t : State} (h : InnerUpdates True s t) : RowUpdates s t :=
  h.lift id fun _ _ hu => .inner hu

/-- An operation that is a chain of updates in every state. -/
def RowOp (f : State → State) : Prop := ∀ s, RowUpdates s (f s)

namespace RowOp

variable {f g : State → State}

theorem comp (hg : RowOp g) (hf : RowOp f) : RowOp fun s => g (f s) :=
  fun s => (hf s).trans (hg (f s))

theorem of_inner (hf : Inner True f) : RowOp f := fun s => (hf s).row

theorem running (hf : RowOp f) (s : State) : RowUpdates s (stateOf s (running f s)) := by
  unfold Machine.running whenRunning
  cases h : s.inReset with
  | true => exact .refl
  | false => exact hf s

theorem foldl {α : Type} {f : State → α → State} (h : ∀ a, RowOp (f · a)) (l : List α) :
    RowOp (l.foldl f ·) :=
  fun s => foldl_keeps (RowUpdates s) f l (fun t a _ ht => ht.trans (h a t)) s .refl

end RowOp

theorem setResult_op (r : CmdResult) (i : Fin 64) : RowOp (setResult r i) :=
  fun _ => .single (.host (.window _))

theorem accepted_op : RowOp accepted := setResult_op _ _

theorem accessError_op (err : AccessError) (addr : BitVec 5) (isWrite : Bool) :
    RowOp (accessError err addr isWrite) :=
  fun _ => .trans (.single (.host (.window _))) (.single (.inner (.raised srcAccessError)))

theorem refuseWrite_op (err : AccessError) (addr : BitVec 5) : RowOp (refuseWrite err addr) :=
  accessError_op err addr true

theorem hostRead_op {f : State → State} (hf : RowOp f) (a : BitVec 5) : RowOp (hostRead a f) :=
  fun s => (hf s).trans (.single (.host (.window _)))

/-! ### COMMAND -/

theorem commandStart_op : RowOp commandStart := by
  intro s
  unfold commandStart
  split
  · refine .trans (.trans (.single (.host (.timer s.timer.load))) ?_) (accepted_op _)
    exact .single (.host (.ctrl _ rfl id))
  · exact setResult_op _ _ s

theorem commandStop_op : RowOp commandStop := by
  intro s
  refine .trans ?_ (accepted_op _)
  split
  · exact .refl
  · exact RowOp.of_inner ((stopWaiting_inner _).comp takeMeeting_inner) s
  · exact .single (.host (.ctrl _ rfl id))

theorem commandAbort_op : RowOp commandAbort := by
  intro s
  have hbefore : RowUpdates s ((nextMeeting s).before.foldl laneEnd (takeMeeting s)) :=
    RowOp.of_inner ((Inner.foldl laneEnd_inner _).comp takeMeeting_inner) s
  refine .trans (hbefore.trans ?_) (accepted_op _)
  split
  · exact .refl
  · exact RowOp.of_inner (stopWaiting_inner _) _
  · refine .trans ?_ (RowOp.of_inner ((Inner.foldl abortLane_inner allLanes).comp
      (Inner.foldl abortStep_inner (nextMeeting s).between)) _)
    exact .single (.host (.ctrl _ rfl id))

theorem commandTrigger_op : RowOp commandTrigger := accepted_op.comp (.of_inner takeTrigger_inner)

/-- The checks of validation, said field by field (R14). -/
theorem entryValid_iff (e : Entry) : entryValid e = true ↔ EntrySound e := by
  unfold entryValid EntrySound
  cases hk : e.kind with
  | none => simp
  | some k => cases k <;> simp [entryChecks] <;> omega

theorem firstInvalid_eq_none (b : Bank) : firstInvalid b = none ↔ BankSound b := by
  simp [firstInvalid, BankSound, allEntries, ← entryValid_iff]

theorem commandCommit_op : RowOp commandCommit := by
  intro s
  unfold commandCommit
  split
  · exact setResult_op _ _ s
  · split
    · exact setResult_op _ _ s
    next hsound =>
      have hbank := (firstInvalid_eq_none _).1 hsound
      split
      · exact .trans (.single (.host (.swapped hbank))) (accepted_op _)
      · exact .trans (.single (.host (.committed hbank))) (accepted_op _)

theorem commandCancelCommit_op : RowOp commandCancelCommit := by
  intro s
  refine .trans ?_ (accepted_op _)
  exact .single (.host (.ctrl _ rfl nofun))

theorem commandClearLane_op : RowOp commandClearLane := by
  intro s
  unfold commandClearLane
  split
  · exact .trans (.single (.host (.lanes _))) (accepted_op _)
  · exact setResult_op _ _ s

theorem commandClearSlot_op : RowOp commandClearSlot := by
  intro s
  unfold commandClearSlot
  split
  · exact .trans (.single (.host (.cleared _))) (accepted_op _)
  · exact setResult_op _ _ s

theorem commandClearOverrun_op : RowOp commandClearOverrun := by
  intro s
  refine .trans ?_ (accepted_op _)
  exact .single (.host (.ctrl _ rfl id))

theorem commandClearScheduleError_op : RowOp commandClearScheduleError := by
  intro s
  refine .trans ?_ (accepted_op _)
  exact .single (.host (.ctrl _ rfl id))

theorem commandClearAlertLost_op : RowOp commandClearAlertLost := by
  intro s
  refine .trans ?_ (accepted_op _)
  exact .single (.host (.alerts _ rfl rfl))

theorem eventRow_op (c : Instr) : RowOp (eventRow · c) := by
  intro s
  cases hm : isMirrorRow c with
  | true =>
    show RowUpdates s (eventRow s c)
    rw [eventRow_exec s c (.inl hm)]
    exact .single (.port c hm)
  | false =>
    cases hi : isInnerEvent c with
    | true =>
      show RowUpdates s (eventRow s c)
      rw [eventRow_exec s c (.inr hi)]
      exact (exec_inner hi fun _ => readsOnlyIf_true s).row
    | false =>
      show RowUpdates s (eventRow s c)
      rw [eventRow_other s c hm hi]

theorem meetSoftReset_op (m : Meeting) : RowOp (meetSoftReset m) := by
  intro s
  refine meetSoftReset_keeps (RowUpdates s) m s (fun t c ht => ht.trans (eventRow_op c t))
    (fun t w ht => ht.trans (.single (.host (.events _ rfl rfl)))) ?_
  refine .trans (.single (.host (.meetings []))) ?_
  exact .single (.host (.events _ rfl rfl))

theorem commandSoftReset_op : RowOp commandSoftReset := by
  intro s
  refine .trans (meetSoftReset_op (nextMeeting s) s) (.trans (.single (.host (.meetings s.meetings.tail)))
    (.trans (.single (.host .softReset)) ?_))
  exact .single (.host (.events _ rfl rfl))

theorem writeCommand_op (v : Word) : RowOp (writeCommand v) := by
  intro s
  unfold writeCommand
  split
  · exact commandStart_op s
  · exact commandStop_op s
  · exact commandAbort_op s
  · exact commandTrigger_op s
  · exact commandCommit_op s
  · exact commandCancelCommit_op s
  · exact commandClearLane_op s
  · exact commandClearSlot_op s
  · exact commandClearOverrun_op s
  · exact commandClearScheduleError_op s
  · exact commandClearAlertLost_op s
  · exact commandSoftReset_op s
  · exact setResult_op _ _ s

/-! ### The table port -/

theorem advanceTable_op : RowOp advanceTable := fun _ => .single (.host (.window _))

theorem tableRead_op : RowOp tableRead := by
  intro s
  simp only [tableRead]
  split
  · refine .trans ?_ (advanceTable_op _)
    split
    · exact .single (.host (.mirror _ rfl))
    · exact .refl
  · exact accessError_op _ _ _ s

/-- A configuration that a word gives has a level of 1 or more (R124). -/
theorem sourceConfigOfWord_level {w : Word} {c : SourceConfig} (h : sourceConfigOfWord w = some c) :
    1 ≤ c.level.toNat := by
  unfold sourceConfigOfWord at h
  split at h
  · exact nomatch h
  next hne =>
    cases h
    exact Nat.one_le_iff_ne_zero.2 fun h0 => hne (BitVec.eq_of_toNat_eq h0)

theorem writeTableData_op (v : Word) : RowOp (writeTableData v) := by
  intro s
  unfold writeTableData
  split
  · split
    next =>
      unfold writeStaged
      split
      · exact refuseWrite_op _ _ s
      next hpending =>
        exact .trans (.single (.host (.staged _ (eq_false_of_ne_true hpending)))) (advanceTable_op _)
    next => exact refuseWrite_op _ _ s
    next =>
      simp only [writeSlotConfig]
      split
      · exact refuseWrite_op _ _ s
      next hword => exact .trans (.single (.host (.limit _ _ _ _ hword))) (advanceTable_op _)
    next =>
      simp only [writeLaneConfig]
      split
      · split
        · exact refuseWrite_op _ _ s
        · exact .trans (.single (.host (.lanes _))) (advanceTable_op _)
      · exact refuseWrite_op _ _ s
    next =>
      simp only [writeSourceConfig]
      split
      · exact refuseWrite_op _ _ s
      next hword =>
        exact .trans (.single (.host (.source _ _ (sourceConfigOfWord_level hword)))) (advanceTable_op _)
    next => exact refuseWrite_op _ _ s
    next => exact refuseWrite_op _ _ s
  · exact refuseWrite_op _ _ s

theorem writeTableSel_op (v : Word) : RowOp (writeTableSel v) := by
  intro s
  unfold writeTableSel
  split
  · exact refuseWrite_op _ _ s
  · exact .single (.host (.window _))

/-! ### The other registers -/

theorem writeTimerMode_op (v : Word) : RowOp (writeTimerMode v) := by
  intro s
  simp only [writeTimerMode]
  split
  · exact .single (.host (.timer _))
  · exact refuseWrite_op _ _ s

theorem writeTimerDiv_op (v : Word) : RowOp (writeTimerDiv v) := by
  intro s
  unfold writeTimerDiv
  split
  · exact .single (.host (.timer _))
  · exact refuseWrite_op _ _ s

theorem writeSampleSel_op (slot : Byte) (consume : Bool) : RowOp (writeSampleSel slot consume) := by
  intro s
  unfold writeSampleSel
  split
  · exact refuseWrite_op _ _ s
  next i _ =>
    cases consume with
    | true =>
      refine .trans (.single (.host (.consumed i))) ?_
      exact .single (.host (.samples _ rfl))
    | false => exact .single (.host (.samples _ rfl))

theorem writeAlertAck_op (v : Word) : RowOp (writeAlertAck v) := by
  intro s
  simp only [writeAlertAck]
  split
  · refine .trans (.single (.host (.acknowledged (v.extractLsb' 0 8)))) ?_
    exact .single (.host (.alerts _ rfl rfl))
  · exact refuseWrite_op _ _ s

theorem writeDone_op (v : Word) : RowOp (writeDone v) := by
  intro s
  rcases writeDone_cases v s with ⟨err, h⟩ | ⟨top, rest, hstack, -, h⟩ <;> rw [h]
  · exact refuseWrite_op _ _ s
  · exact .single (.host (.done top rest hstack))

theorem raise_op (n : Fin 16) : RowOp (raise n) := fun _ => .single (.inner (.raised n))

theorem writeThreshold_op (v : Word) : RowOp (writeThreshold v) := fun _ => .single (.host (.events _ rfl rfl))

theorem claim_op : RowOp claim := fun _ => .single (.host .claimed)

theorem peekAlert_op : RowOp peekAlert := fun _ => .single (.host (.alerts _ rfl rfl))

theorem readNote_op : RowOp readNote := fun _ => .single (.host (.mirror _ rfl))

theorem clearAccessError_op : RowOp clearAccessError := fun _ => .single (.host (.window _))

theorem writePeriod_op (v : Word) : RowOp fun s => { s with timer := s.timer.writePeriod v } :=
  fun _ => .single (.host (.timer _))

theorem writeRegister_op (a : BitVec 5) (v : Word) : RowOp (writeRegister a v) := by
  intro s
  unfold writeRegister
  split
  · exact writeCommand_op v s
  · exact .single (.host (.window _))
  · exact clearAccessError_op s
  · exact writeTimerMode_op v s
  · exact writeTimerDiv_op v s
  · exact writePeriod_op v s
  · exact writeTableSel_op v s
  · exact .single (.host (.window _))
  · exact writeTableData_op v s
  · exact writeSampleSel_op _ _ s
  · exact writeAlertAck_op v s
  · exact writeDone_op v s
  · exact writeThreshold_op v s
  · exact raise_op _ s
  · exact .single (.host (.mirror _ rfl))
  · exact refuseWrite_op _ _ s

/-! ### Every row -/

/-- Power-on reset and its release (R180). -/
def isResetRow : Instr → Bool
  | .powerOnReset | .resetRelease _ _ => true
  | _ => false

/-- Every row but the reset rows is a chain of updates. -/
theorem exec_row {c : Instr} (hc : isResetRow c = false) (s : State) :
    RowUpdates s (stateOf s (exec c s)) := by
  cases c with
  | powerOnReset | resetRelease => exact nomatch hc
  | mselAssert | mselDeassert | readSlot | readRun | readRunNextRecord | readState | peekAlert | ackAlert
  | postNote | mirrorUnknownCommand | mclkEdge => exact .single (.port _ rfl)
  | timerExpiry | ftrigEdge | heldQueueRelease | frameEnd | readySeen | readyTimeout | shiftEnd | gapEnd
  | pauseExpiry | tick => exact (exec_inner rfl fun _ => readsOnlyIf_true s).row
  | start => exact commandStart_op.running s
  | stop => exact commandStop_op.running s
  | abort => exact commandAbort_op.running s
  | trigger => exact commandTrigger_op.running s
  | commit => exact commandCommit_op.running s
  | cancelCommit => exact commandCancelCommit_op.running s
  | clearLane => exact commandClearLane_op.running s
  | clearSlot => exact commandClearSlot_op.running s
  | clearOverrun => exact commandClearOverrun_op.running s
  | clearScheduleError => exact commandClearScheduleError_op.running s
  | clearAlertLost => exact commandClearAlertLost_op.running s
  | softReset => exact commandSoftReset_op.running s
  | undefinedCommandCode v => exact (writeCommand_op v).running s
  | evClaim => exact (hostRead_op claim_op _).running s
  | evDone v => exact (writeDone_op v).running s
  | evRaise v => exact (raise_op _).running s
  | evThreshWrite v => exact (writeThreshold_op v).running s
  | hostAlertPeek => exact (hostRead_op peekAlert_op _).running s
  | alertAck v => exact (writeAlertAck_op v).running s
  | mirrorNoteRead => exact (hostRead_op readNote_op _).running s
  | sampleSnapshotConsume slot => exact (writeSampleSel_op slot true).running s
  | samplePeek slot => exact (writeSampleSel_op slot false).running s
  | tableDataRead => exact (hostRead_op tableRead_op _).running s
  | stagedBankWrite v | slotConfigWrite v | laneConfigWrite v | sourceConfigWrite v =>
    exact (writeTableData_op v).running s
  | tableSelWrite v => exact (writeTableSel_op v).running s
  | timerModeWrite v => exact (writeTimerMode_op v).running s
  | timerDivWrite v => exact (writeTimerDiv_op v).running s
  | timerPeriodWrite v => exact (writePeriod_op v).running s
  | accessErrWrite v => exact clearAccessError_op.running s
  | registerWrite a v => exact (writeRegister_op a v).running s

/-- No row stops the device (log entry 29). -/
theorem exec_eq_next (c : Instr) (s : State) : exec c s = .next (stateOf s (exec c s)) := by
  cases c <;> rfl

theorem stateOf_of_next {c : Instr} {s t : State} (h : exec c s = .next t) : stateOf s (exec c s) = t := by
  rw [h]; rfl

/-- A property that neither the queue nor an update of a row touches, and that both reset rows keep, is kept by
every step. -/
theorem step_keeps (P : State → Prop) (hqueue : ∀ s l, P s → P { s with pending := l })
    (hrow : ∀ s t, RowUpdate s t → P s → P t) (hreset : ∀ s, P s → P (powerOn s))
    (hrelease : ∀ ftrig msel s, P s → s.inReset = true → P (release ftrig msel s)) {s t : State}
    (hs : P s) (h : step s = .next t) : P t := by
  unfold step at h
  cases hq : s.pending with
  | nil =>
    rw [hq] at h
    cases h
    exact hs
  | cons c rest =>
    rw [hq] at h
    have hs' := hqueue s rest hs
    have ht := stateOf_of_next h
    cases hc : isResetRow c with
    | false => exact ht ▸ (exec_row hc _).keeps hrow hs'
    | true =>
      cases c with
      | powerOnReset => exact ht ▸ hreset _ hs'
      | resetRelease ftrig msel =>
        rw [← ht]
        simp only [exec, execResetRelease, stateOf, when]
        split
        next hin => exact hrelease ftrig msel _ hs' hin
        next => exact hs'
      | _ => exact nomatch hc

end Sys2Proof.Machine
end

section
/-! Proofs about the sample table, the alert queue, the event controller and the banks: every update of a row
keeps them legal, so every step does. -/

namespace Sys2Proof.Machine

/-! ### Slots and slot configurations (R75, R76, R95) -/

theorem slotLegal_cleared : SlotLegal Slot.cleared := ⟨fun _ => rfl, by decide⟩

theorem slotLegal_of_written {r : Slot} (h : SlotWritten r) : SlotLegal r := by
  rcases h with ⟨hstatus, hkind⟩ | ⟨hstatus, hkind⟩
  · exact ⟨fun he => (nomatch hstatus.symm.trans he), by simp [hstatus, hkind]⟩
  · exact ⟨fun he => (nomatch hstatus.symm.trans he), by simp [hstatus, hkind]⟩

/-- A consume turns FRESH into READ and leaves an EMPTY slot as it is (R87). -/
theorem slotLegal_consumed {r : Slot} (h : SlotLegal r) : SlotLegal r.consumed := by
  obtain ⟨hempty, hfault⟩ := h
  by_cases hfresh : r.status = .fresh
  · have hkind : ¬ r.faultKind ≠ none := fun hne => nomatch hfresh.symm.trans (hfault.2 hne)
    exact ⟨by simp [Slot.consumed, hfresh], by simpa [Slot.consumed, hfresh] using hkind⟩
  · refine ⟨fun he => ?_, by simpa [Slot.consumed, hfresh] using hfault⟩
    have hcleared := hempty (by simpa [Slot.consumed, hfresh] using he)
    rw [hcleared]
    decide

theorem joinWords_toNat (hi lo : Word) : (joinWords hi lo).toNat = hi.toNat * 65536 + lo.toNat := by
  rw [joinWords, BitVec.toNat_append, ← Nat.shiftLeft_add_eq_or_of_lt lo.isLt, Nat.shiftLeft_eq]

theorem lowWord_toNat (v : Value) : (lowWord v).toNat = v.toNat % 65536 := by
  simp [lowWord, BitVec.extractLsb'_toNat]

theorem highWord_toNat (v : Value) : (highWord v).toNat = v.toNat / 65536 := by
  have := v.isLt
  rw [highWord, BitVec.extractLsb'_toNat, Nat.shiftRight_eq_div_pow]
  omega

/-- The top bit of a word as a bound. -/
theorem topBit_iff (w : Word) : w.getLsbD 15 = true ↔ 32768 ≤ w.toNat := by
  have hw := w.isLt
  rw [BitVec.getLsbD, Nat.testBit_eq_decide_div_mod_eq]
  simp only [decide_eq_true_eq]
  omega

/-- No word that a write stores takes a hysteresis out of its range (R95, R96). -/
theorem setWord_hysteresis {c d : SlotConfig} {k : Fin 8} {w : Word} (h : c.setWord k w = some d)
    (hc : c.hysteresis.toNat ≤ 0x7FFFFFFF) : d.hysteresis.toNat ≤ 0x7FFFFFFF := by
  unfold SlotConfig.setWord at h
  have hw := w.isLt
  split at h
  case h_5 =>
    cases h
    simp only [joinWords_toNat, highWord_toNat]
    omega
  case h_6 =>
    split at h
    · exact nomatch h
    next hbit =>
      cases h
      have hlow := lowWord_toNat c.hysteresis
      rw [topBit_iff] at hbit
      simp only [joinWords_toNat]
      omega
  all_goals
    cases h
    exact hc

theorem SlotsLegal.congr {s t : State} (h : SlotsLegal s) (hslots : t.samples.slots = s.samples.slots)
    (hlimits : t.limits = s.limits) :
    SlotsLegal t :=
  ⟨fun i => hslots ▸ h.slot i, fun i => hlimits ▸ h.hysteresis i⟩

theorem slotsLegal_setSlot {s : State} (i : Fin 64) {r : Slot} (hr : SlotLegal r) (h : SlotsLegal s) :
    SlotsLegal (setSlot i r s) := by
  refine ⟨fun j => ?_, h.hysteresis⟩
  rw [setSlot_samples, setSlot_slots]
  split
  · exact hr
  · exact h.slot j

theorem slotsLegal_limit {s : State} (i : Fin 64) {c : SlotConfig} (hc : c.hysteresis.toNat ≤ 0x7FFFFFFF)
    (h : SlotsLegal s) : SlotsLegal { s with limits := s.limits.set i.val c i.isLt } := by
  refine ⟨h.slot, fun j => ?_⟩
  by_cases hij : i = j
  · subst hij
    simpa using hc
  · have hne : i.val ≠ j.val := fun he => hij (Fin.ext he)
    simpa [hne] using h.hysteresis j

theorem slotsLegal_afterReset {s : State} (hslots : s.samples.slots = SampleTable.afterReset.slots)
    (hlimits : ∀ i : Fin 64, (s.limits[i]).hysteresis.toNat ≤ 0x7FFFFFFF) : SlotsLegal s := by
  refine ⟨fun i => ?_, hlimits⟩
  rw [hslots]
  simpa [SampleTable.afterReset] using slotLegal_cleared

theorem slotsLegal_row {s t : State} (hst : RowUpdate s t) (h : SlotsLegal s) : SlotsLegal t := by
  cases hst with
  | inner hin =>
    cases hin with
    | slot i r hr => exact slotsLegal_setSlot i (slotLegal_of_written hr) h
    | read _ r => rw [takeRead_eq]; exact h.congr rfl rfl
    | post => exact h.congr (by simp) (by simp)
    | ctrl | lanes | raised | swap | timer | meeting => exact h.congr rfl rfl
  | port c hc =>
    refine (exec_port hc s).keeps (fun u v huv hu => ?_) h
    cases huv <;> exact hu.congr rfl rfl
  | host hho =>
    cases hho with
    | samples m hm => exact h.congr hm rfl
    | consumed i => exact slotsLegal_setSlot i (slotLegal_consumed (h.slot i)) h
    | cleared i => exact slotsLegal_setSlot i slotLegal_cleared h
    | limit i k w c hword => exact slotsLegal_limit i (setWord_hysteresis hword (h.hysteresis i)) h
    | softReset => exact slotsLegal_afterReset rfl h.hysteresis
    | staged => exact h.congr (by simp) (by simp)
    | claimed => exact h.congr (by simp) (by simp)
    | _ => exact h.congr rfl rfl

theorem powerOn_slotsLegal (s : State) : SlotsLegal (powerOn s) :=
  slotsLegal_afterReset rfl fun i => by simp [powerOn, State.reset, SlotConfig.powerOn]

/-- Settles O57: what a completion writes, what a consume leaves and the cleared record are legal slots, and no
write takes a hysteresis out of its range. -/
theorem stepKeepsSlotsLegal : Obligations.StepKeepsSlotsLegal := fun _ _ hs hstep =>
  step_keeps SlotsLegal (fun _ _ h => h.congr rfl rfl) (fun _ _ => slotsLegal_row)
    (fun s _ => powerOn_slotsLegal s) (fun _ _ _ h _ => h.congr rfl rfl) hs hstep

/-! ### The alert queue (R102) -/

theorem serialsFrom_succ (first : Byte) (n : Nat) :
    serialsFrom first (n + 1) = serialsFrom first n ++ [first + BitVec.ofNat 8 n] := by
  induction n generalizing first with
  | zero => simp [serialsFrom]
  | succ n ih =>
    rw [serialsFrom, ih (first + 1), serialsFrom, List.cons_append, BitVec.add_assoc, Nat.add_comm n 1,
      BitVec.ofNat_add]
    rfl

theorem AlertsLegal.congr {s t : State} (h : AlertsLegal s) (hrecords : t.alerts.records = s.alerts.records)
    (hnext : t.alerts.nextSerial = s.alerts.nextSerial) :
    AlertsLegal t := by
  obtain ⟨hdepth, hserials⟩ := h
  exact ⟨hrecords ▸ hdepth, by rw [hrecords, hnext]; exact hserials⟩

theorem alertsLegal_of_empty {s : State} (h : s.alerts.records = []) : AlertsLegal s :=
  ⟨by simp [h], by simp [h, serialsFrom]⟩

/-- A post takes the serial that follows the last one. -/
theorem alertsLegal_postAlert {s : State} (kind : AlertKind) (i : Fin 64) (q : Word) (v : Value)
    (h : AlertsLegal s) : AlertsLegal (postAlert kind i q v s) := by
  rcases postAlert_cases kind i q v s with ⟨hroom, e⟩ | ⟨-, e⟩ <;> rw [e]
  · refine ⟨by simpa using hroom, ?_⟩
    have hfirst : s.alerts.nextSerial + 1 - BitVec.ofNat 8 (s.alerts.records.length + 1) =
        s.alerts.nextSerial - BitVec.ofNat 8 s.alerts.records.length := by
      rw [BitVec.ofNat_add]
      bv_omega
    simp only [List.map_append, List.map_cons, List.map_nil, List.length_append, List.length_cons,
      List.length_nil, Nat.zero_add, hfirst, serialsFrom_succ, h.serials]
    congr 2
    bv_omega
  · exact h.congr rfl rfl

/-- An acknowledgement leaves the queue, or all of it behind its head (R106). -/
theorem acknowledge_cases (q : AlertQueue) (serial : Byte) :
    q.acknowledge serial = q ∨
      ∃ head rest, q.records = head :: rest ∧ q.acknowledge serial = { q with records := rest } := by
  unfold AlertQueue.acknowledge
  split
  · exact .inl rfl
  next head rest h =>
    split
    · exact .inr ⟨head, rest, h, rfl⟩
    · exact .inl rfl

theorem alertsLegal_acknowledge {s : State} (serial : Byte) (h : AlertsLegal s) :
    AlertsLegal { s with alerts := s.alerts.acknowledge serial } := by
  rcases acknowledge_cases s.alerts serial with e | ⟨head, rest, hrecords, e⟩
  · exact h.congr (by rw [e]) (by rw [e])
  · obtain ⟨hdepth, hserials⟩ := h
    rw [hrecords] at hdepth hserials
    refine ⟨by rw [e]; exact Nat.le_of_succ_le hdepth, ?_⟩
    simp only [List.map_cons, List.length_cons, serialsFrom, List.cons.injEq] at hserials
    obtain ⟨-, hrest⟩ := hserials
    rw [e]
    simp only [hrest]
    congr 1
    rw [BitVec.ofNat_add]
    bv_omega

theorem alertsLegal_row {s t : State} (hst : RowUpdate s t) (h : AlertsLegal s) : AlertsLegal t := by
  cases hst with
  | inner hin =>
    cases hin with
    | post kind i q v => exact alertsLegal_postAlert kind i q v h
    | read _ r => rw [takeRead_eq]; exact h.congr rfl rfl
    | ctrl | lanes | raised | swap | slot | timer | meeting => exact h.congr rfl rfl
  | port c hc =>
    refine (exec_port hc s).keeps (fun u v huv hu => ?_) h
    cases huv with
    | acknowledged serial => exact alertsLegal_acknowledge serial hu
    | mirror | raised => exact hu.congr rfl rfl
  | host hho =>
    cases hho with
    | alerts q hrecords hnext => exact h.congr hrecords hnext
    | acknowledged serial => exact alertsLegal_acknowledge serial h
    | softReset => exact alertsLegal_of_empty rfl
    | staged => exact h.congr (by simp) (by simp)
    | claimed => exact h.congr (by simp) (by simp)
    | _ => exact h.congr rfl rfl

/-- Settles O58: a post appends the next serial, an acknowledgement takes the first one away. -/
theorem stepKeepsAlertsLegal : Obligations.StepKeepsAlertsLegal := fun _ _ hs hstep =>
  step_keeps AlertsLegal (fun _ _ h => h.congr rfl rfl) (fun _ _ => alertsLegal_row)
    (fun _ _ => alertsLegal_of_empty rfl) (fun _ _ _ h _ => h.congr rfl rfl) hs hstep

/-! ### The service stack (R124, R128) -/

theorem ServiceLegal.congr {s t : State} (h : ServiceLegal s) (hstack : t.events.stack = s.events.stack)
    (hsources : t.events.sources = s.events.sources) :
    ServiceLegal t := by
  obtain ⟨horder, hfloor, hdepth, hlevels⟩ := h
  exact ⟨hstack ▸ horder, hstack ▸ hfloor, hstack ▸ hdepth, fun n => hsources ▸ hlevels n⟩

/-- A stack of falling levels, each at least 1, is no deeper than the level on its top. -/
theorem stack_length_le {l : List ServiceEntry}
    (horder : l.Pairwise fun upper lower => lower.level.toNat < upper.level.toNat)
    (hfloor : ∀ x ∈ l, 1 ≤ x.level.toNat) : ∀ top ∈ l.head?, l.length ≤ top.level.toNat := by
  induction l with
  | nil => exact nofun
  | cons x l ih =>
    obtain ⟨hx, hl⟩ := List.pairwise_cons.1 horder
    rintro top ⟨⟩
    cases l with
    | nil => exact hfloor x List.mem_cons_self
    | cons y l =>
      have hrest := ih hl (fun z hz => hfloor z (List.mem_cons_of_mem x hz)) y rfl
      have hxy := hx y List.mem_cons_self
      rw [List.length_cons]
      omega

theorem serviceLegal_of_order {s : State}
    (horder : s.events.stack.Pairwise fun upper lower => lower.level.toNat < upper.level.toNat)
    (hfloor : ∀ x ∈ s.events.stack, 1 ≤ x.level.toNat)
    (hlevels : ∀ n : Fin 16, 1 ≤ (s.events.sources[n]).level.toNat) : ServiceLegal s := by
  refine ⟨horder, hfloor, ?_, hlevels⟩
  cases h : s.events.stack with
  | nil => simp
  | cons top rest =>
    have hlen := stack_length_le horder hfloor top (by simp [h])
    have htop := top.level.isLt
    rw [h] at hlen
    omega

/-- A claim puts a source on the stack whose level is above that of the top, and so above every other one
(R129, R132). -/
theorem serviceLegal_claim {s : State} (h : ServiceLegal s) : ServiceLegal (claim s) := by
  rcases claim_cases s with e | ⟨n, hbest, e⟩ <;> rw [e]
  · exact h
  · obtain ⟨-, -, -, habove⟩ := (isEligible_iff s n).1 (bestEligible_eligible s n hbest)
    refine serviceLegal_of_order (List.pairwise_cons.2 ⟨fun x hx => ?_, h.order⟩) ?_ h.levels
    · cases hstack : s.events.stack with
      | nil => rw [hstack] at hx; exact nomatch hx
      | cons top rest =>
        have htop := habove top rest hstack
        have horder := h.order
        rw [hstack] at hx horder
        rcases List.mem_cons.1 hx with rfl | hrest
        · exact htop
        · exact Nat.lt_trans ((List.pairwise_cons.1 horder).1 x hrest) htop
    · intro x hx
      rcases List.mem_cons.1 hx with rfl | hx
      · exact h.levels n
      · exact h.floor x hx

theorem serviceLegal_done {s : State} {top : ServiceEntry} {rest : List ServiceEntry}
    (hstack : s.events.stack = top :: rest) (h : ServiceLegal s) :
    ServiceLegal { s with events := { s.events with stack := rest } } := by
  obtain ⟨horder, hfloor, -, hlevels⟩ := h
  rw [hstack] at horder hfloor
  exact serviceLegal_of_order (List.pairwise_cons.1 horder).2
    (fun x hx => hfloor x (List.mem_cons_of_mem top hx)) hlevels

theorem serviceLegal_source {s : State} (n : Fin 16) {c : SourceConfig} (hc : 1 ≤ c.level.toNat)
    (h : ServiceLegal s) : ServiceLegal
      { s with events := { s.events with sources := s.events.sources.set n.val c n.isLt } } := by
  refine ⟨h.order, h.floor, h.depth, fun m => ?_⟩
  by_cases hnm : n = m
  · subst hnm
    simpa using hc
  · have hne : n.val ≠ m.val := fun he => hnm (Fin.ext he)
    simpa [hne] using h.levels m

theorem serviceLegal_of_empty {s : State} (hstack : s.events.stack = [])
    (hlevels : ∀ n : Fin 16, 1 ≤ (s.events.sources[n]).level.toNat) : ServiceLegal s :=
  serviceLegal_of_order (by simp [hstack]) (by simp [hstack]) hlevels

theorem raise_stack (e : Events) (n : Fin 16) : (e.raise n).stack = e.stack := by
  rcases raise_cases e n with h | h <;> rw [h]

theorem raise_sources (e : Events) (n : Fin 16) : (e.raise n).sources = e.sources := by
  rcases raise_cases e n with h | h <;> rw [h]

theorem serviceLegal_raise {s : State} (n : Fin 16) (h : ServiceLegal s) : ServiceLegal (raise n s) :=
  h.congr (raise_stack _ n) (raise_sources _ n)

theorem serviceLegal_takeRead {s : State} (r : EventRead) (h : ServiceLegal s) :
    ServiceLegal (takeRead s r) := by
  cases r with
  | claim => exact (serviceLegal_claim h).congr rfl rfl
  | pending | service => exact h.congr rfl rfl

theorem serviceLegal_row {s t : State} (hst : RowUpdate s t) (h : ServiceLegal s) : ServiceLegal t := by
  cases hst with
  | inner hin =>
    cases hin with
    | raised n => exact serviceLegal_raise n h
    | swap => exact serviceLegal_raise srcBankSwap (h.congr rfl rfl)
    | post kind i q v =>
      rcases postAlert_cases kind i q v s with ⟨-, e⟩ | ⟨-, e⟩ <;> rw [e]
      · exact h.congr rfl rfl
      · exact serviceLegal_raise srcAlertLost (h.congr rfl rfl)
    | read _ r => exact serviceLegal_takeRead r h
    | ctrl | lanes | slot | timer | meeting => exact h.congr rfl rfl
  | port c hc =>
    refine (exec_port hc s).keeps (fun u v huv hu => ?_) h
    cases huv with
    | raised n => exact serviceLegal_raise n hu
    | mirror | acknowledged => exact hu.congr rfl rfl
  | host hho =>
    cases hho with
    | events e hstack hsources => exact h.congr hstack hsources
    | done top rest hstack => exact serviceLegal_done hstack h
    | claimed => exact serviceLegal_claim h
    | source n c hc => exact serviceLegal_source n hc h
    | swapped => exact serviceLegal_raise srcBankSwap (h.congr rfl rfl)
    | softReset => exact serviceLegal_of_empty rfl h.levels
    | staged => exact h.congr (by simp) (by simp)
    | _ => exact h.congr rfl rfl

theorem powerOn_serviceLegal (s : State) : ServiceLegal (powerOn s) :=
  serviceLegal_of_empty rfl fun n => by simp [powerOn, State.reset, Events.powerOn]

/-- Settles O59: a claim puts a level on the stack that is above all of those there, and a done takes the
highest away. -/
theorem stepKeepsServiceLegal : Obligations.StepKeepsServiceLegal := fun _ _ hs hstep =>
  step_keeps ServiceLegal (fun _ _ h => h.congr rfl rfl) (fun _ _ => serviceLegal_row)
    (fun s _ => powerOn_serviceLegal s) (fun _ _ _ h _ => h.congr rfl rfl) hs hstep

/-! ### The banks (R14, R16, R17) -/

theorem entrySound_blank : EntrySound Entry.blank := .inl (.inl (by decide))

theorem bankSound_blank : BankSound (Vector.replicate 64 Entry.blank) := fun i => by
  simpa using entrySound_blank

theorem powerOn_banksLegal (s : State) : BanksLegal (powerOn s) := ⟨bankSound_blank, nofun⟩

/-- Nothing that the two banks, the selector and commit_pending do not show matters to them. -/
theorem BanksLegal.congr {s t : State} (h : BanksLegal s) (ha : t.bankA = s.bankA) (hb : t.bankB = s.bankB)
    (hactive : t.ctrl.active = s.ctrl.active)
    (hpending : t.ctrl.commitPending = true → s.ctrl.commitPending = true) :
    BanksLegal t := by
  have hsame : activeBank t = activeBank s ∧ stagedBank t = stagedBank s := by
    simp only [activeBank, stagedBank, hactive, ha, hb, and_self]
  obtain ⟨hact, hsta⟩ := hsame
  exact ⟨hact ▸ h.active, fun hp => hsta ▸ h.staged (hpending hp)⟩

theorem activeBank_swapBanks (s : State) : activeBank (swapBanks s) = stagedBank s := by
  simp only [activeBank, stagedBank, swapBanks_ctrl, swapBanks_bankA, swapBanks_bankB]
  cases s.ctrl.active <;> rfl

/-- A swap makes a sound staged bank the active one (R16). -/
theorem banksLegal_swapBanks {s : State} (h : BankSound (stagedBank s)) : BanksLegal (swapBanks s) :=
  ⟨activeBank_swapBanks s ▸ h, nofun⟩

theorem banksLegal_row {s t : State} (hst : RowUpdate s t) (h : BanksLegal s) : BanksLegal t := by
  cases hst with
  | inner hin =>
    cases hin with
    | ctrl c hactive hpending => exact h.congr rfl rfl hactive (fun hp => hpending ▸ hp)
    | swap hpending => exact banksLegal_swapBanks (h.staged hpending)
    | post => exact h.congr (by simp) (by simp) (by simp) (by simp)
    | read _ r => rw [takeRead_eq]; exact h.congr rfl rfl rfl id
    | lanes | raised | slot | timer | meeting => exact h.congr rfl rfl rfl id
  | port c hc =>
    refine (exec_port hc s).keeps (fun u v huv hu => ?_) h
    cases huv <;> exact hu.congr rfl rfl rfl id
  | host hho =>
    cases hho with
    | ctrl c hactive hpending => exact h.congr rfl rfl hactive hpending
    | committed hsound => exact ⟨h.active, fun _ => hsound⟩
    | swapped hsound => exact banksLegal_swapBanks hsound
    | staged b hpending =>
      refine ⟨(setStagedBank_active b s).symm ▸ h.active, fun hp => ?_⟩
      rw [setStagedBank_ctrl, hpending] at hp
      exact nomatch hp
    | softReset => exact h.congr rfl rfl rfl nofun
    | claimed => exact h.congr (by simp) (by simp) (by simp) (by simp)
    | _ => exact h.congr rfl rfl rfl id

/-- Settles O54: a commit is pending only on a staged bank that validation has found sound, and that bank takes
no write; a swap makes it the active one. -/
theorem stepKeepsBanksLegal : Obligations.StepKeepsBanksLegal := fun _ _ hs hstep =>
  step_keeps BanksLegal (fun _ _ h => h.congr rfl rfl rfl id) (fun _ _ => banksLegal_row)
    (fun s _ => powerOn_banksLegal s) (fun _ _ _ h _ => h.congr rfl rfl rfl id) hs hstep

end Sys2Proof.Machine
end

section
/-! Proofs about what every row leaves alone: the queue and the hold in power-on reset, and for the rows that are
no host access the settings that the host owns. -/

namespace Sys2Proof.Machine

/-! ### The queue and the hold in power-on reset -/

/-- No update touches the queue or the hold in power-on reset. -/
theorem innerUpdate_queue {reads : Prop} {s t : State} (h : InnerUpdate reads s t) :
    t.pending = s.pending ∧ t.inReset = s.inReset := by
  cases h with
  | post => exact ⟨by simp, by simp⟩
  | read _ r => rw [takeRead_eq]; exact ⟨rfl, rfl⟩
  | _ => exact ⟨rfl, rfl⟩

theorem portUpdate_queue {s t : State} (h : PortUpdate s t) :
    t.pending = s.pending ∧ t.inReset = s.inReset := by
  cases h <;> exact ⟨rfl, rfl⟩

theorem hostUpdate_queue {s t : State} (h : HostUpdate s t) :
    t.pending = s.pending ∧ t.inReset = s.inReset := by
  cases h with
  | staged => exact ⟨by simp, by simp⟩
  | claimed => exact ⟨by simp, by simp⟩
  | _ => exact ⟨rfl, rfl⟩

theorem exec_row_queue {c : Instr} (hc : isResetRow c = false) (s : State) :
    (stateOf s (exec c s)).pending = s.pending ∧ (stateOf s (exec c s)).inReset = s.inReset := by
  refine (exec_row hc s).keeps (P := fun t => t.pending = s.pending ∧ t.inReset = s.inReset)
    (fun u v huv hu => ?_) ⟨rfl, rfl⟩
  have hstep : v.pending = u.pending ∧ v.inReset = u.inReset := by
    cases huv with
    | inner h => exact innerUpdate_queue h
    | host h => exact hostUpdate_queue h
    | port c hc =>
      refine (exec_port hc u).keeps (P := fun t => t.pending = u.pending ∧ t.inReset = u.inReset)
        (fun x y hxy hx => ?_) ⟨rfl, rfl⟩
      obtain ⟨hq, hr⟩ := portUpdate_queue hxy
      exact ⟨hq.trans hx.1, hr.trans hx.2⟩
  exact ⟨hstep.1.trans hu.1, hstep.2.trans hu.2⟩

/-- Settles O2: every row is answered with a state that a chain of updates leads to, or is a reset row. -/
theorem everyCommandAnswersNext : Obligations.EveryCommandAnswersNext := by
  intro c s
  refine ⟨stateOf s (exec c s), exec_eq_next c s, ?_⟩
  cases hc : isResetRow c with
  | false =>
    obtain ⟨hqueue, hreset⟩ := exec_row_queue hc s
    exact ⟨hqueue, fun _ _ => hreset⟩
  | true =>
    cases c with
    | powerOnReset => exact ⟨rfl, fun h => absurd rfl h⟩
    | resetRelease f m =>
      refine ⟨?_, fun _ h => absurd rfl (h f m)⟩
      simp only [exec, execResetRelease, stateOf, when]
      split <;> rfl
    | _ => exact nomatch hc

/-- Settles O1: `step` by the queue it finds. -/
theorem stepRunsFrontCommand : Obligations.StepRunsFrontCommand :=
  ⟨fun c rest s h => by simp only [step, h], fun s h => by simp only [step, h]⟩

/-! ### The settings that the host owns -/

/-- The banks, configurations and registers that the host writes; of the window all but the word last read. -/
structure HostOwned where
  bankA   : Bank
  bankB   : Bank
  limits  : Vector SlotConfig 64
  lanes   : Fin 4 → LaneConfig
  events  : EventSettings
  timer   : TimerSettings
  window  : Window
  inReset : Bool

def State.hostOwned (s : State) : HostOwned :=
  ⟨s.bankA, s.bankB, s.limits, fun n => (s.lanes[n]).cfg, s.events.settings, s.timer.settings,
    { s.window with lastRead := none }, s.inReset⟩

/-- No update of an event writes a setting of the host or reaches the mirror port. -/
theorem innerUpdate_hostOwned {reads : Prop} {s t : State} (h : InnerUpdate reads s t) :
    t.hostOwned = s.hostOwned ∧ t.mirror = s.mirror := by
  cases h with
  | lanes l hcfg => exact ⟨by simp only [State.hostOwned, funext hcfg], rfl⟩
  | timer m hm => exact ⟨by simp only [State.hostOwned, hm], rfl⟩
  | raised n => exact ⟨by simp [State.hostOwned], rfl⟩
  | swap => exact ⟨by simp [State.hostOwned], rfl⟩
  | post => exact ⟨by simp [State.hostOwned], by simp⟩
  | read _ r => rw [takeRead_eq]; exact ⟨rfl, rfl⟩
  | ctrl | slot | meeting => exact ⟨rfl, rfl⟩

/-- Where no host read falls among the raises, the service stack and the word last read stay too. -/
theorem innerUpdate_unread {s t : State} (h : InnerUpdate False s t) :
    t.events.stack = s.events.stack ∧ t.window = s.window := by
  cases h with
  | raised n => exact ⟨raise_stack _ n, rfl⟩
  | swap => exact ⟨raise_stack _ srcBankSwap, rfl⟩
  | post kind i q v =>
    rcases postAlert_cases kind i q v s with ⟨-, e⟩ | ⟨-, e⟩ <;> rw [e]
    · exact ⟨rfl, rfl⟩
    · exact ⟨raise_stack _ srcAlertLost, rfl⟩
  | read hf => exact hf.elim
  | ctrl | lanes | slot | timer | meeting => exact ⟨rfl, rfl⟩

theorem exec_inner_hostOwned {c : Instr} (hc : isInnerEvent c = true) (s : State) :
    (stateOf s (exec c s)).hostOwned = s.hostOwned ∧ (stateOf s (exec c s)).mirror = s.mirror := by
  refine (exec_inner hc fun _ => readsOnlyIf_true s).keeps
    (P := fun t => t.hostOwned = s.hostOwned ∧ t.mirror = s.mirror) (fun u v huv hu => ?_) ⟨rfl, rfl⟩
  obtain ⟨howned, hmirror⟩ := innerUpdate_hostOwned huv
  exact ⟨howned.trans hu.1, hmirror.trans hu.2⟩

theorem exec_inner_unread {c : Instr} (hc : isInnerEvent c = true) {s : State}
    (h : mayEndFrame c = true → ReadsOnlyIf False s) :
    (stateOf s (exec c s)).events.stack = s.events.stack ∧ (stateOf s (exec c s)).window = s.window := by
  refine (exec_inner hc h).keeps
    (P := fun t => t.events.stack = s.events.stack ∧ t.window = s.window) (fun u v huv hu => ?_) ⟨rfl, rfl⟩
  obtain ⟨hstack, hwindow⟩ := innerUpdate_unread huv
  exact ⟨hstack.trans hu.1, hwindow.trans hu.2⟩

/-- A mirror row reaches its port, the records of the alert queue and the pending set (R143). -/
theorem exec_port_frame {c : Instr} (hc : isMirrorRow c = true) (s : State) :
    ∃ (m : Mirror) (l : List AlertRecord) (w : Word), stateOf s (exec c s) = { s with
      mirror := m, alerts := { s.alerts with records := l }, events := { s.events with edges := w } } := by
  refine (exec_port hc s).keeps (P := fun t => ∃ (m : Mirror) (l : List AlertRecord) (w : Word), t = { s with
    mirror := m, alerts := { s.alerts with records := l }, events := { s.events with edges := w } })
    (fun u v huv hu => ?_) ⟨_, _, _, rfl⟩
  obtain ⟨m, l, w, rfl⟩ := hu
  cases huv with
  | mirror m' => exact ⟨m', l, w, rfl⟩
  | raised n =>
    rcases raise_cases { s.events with edges := w } n with h | h
    · exact ⟨m, l, w, by rw [raise, h]⟩
    · exact ⟨m, l, _, by rw [raise, h]⟩
  | acknowledged serial =>
    rcases acknowledge_cases { s.alerts with records := l } serial with h | ⟨_, rest, -, h⟩
    · exact ⟨m, l, w, by rw [h]⟩
    · exact ⟨m, rest, w, by rw [h]⟩

theorem mayEndFrame_eq_false {c : Instr} (hend : c ≠ .frameEnd) (htick : c ≠ .tick)
    (hexpiry : c ≠ .timerExpiry) (hwait : ∀ n, c ≠ .readyTimeout n ∧ c ≠ .pauseExpiry n) :
    mayEndFrame c = false := by
  cases c with
  | frameEnd => exact absurd rfl hend
  | tick => exact absurd rfl htick
  | timerExpiry => exact absurd rfl hexpiry
  | readyTimeout n => exact absurd rfl (hwait n).1
  | pauseExpiry n => exact absurd rfl (hwait n).2
  | _ => rfl

theorem readsOnlyIf_false {s : State} (h : ∀ m ∈ s.meetings, m.afterFrameEnd = [] ∧ m.afterSwap = []) :
    ReadsOnlyIf False s := fun m hm hne =>
  hne.elim (fun h1 => h1 (h m hm).1) fun h2 => h2 (h m hm).2

/-- Settles O51: the frame of a mirror row is one record, that of an inner event is `State.hostOwned`. -/
theorem eventsLeaveSettingsAlone : Obligations.EventsLeaveSettingsAlone := by
  intro c s t h
  have ht := stateOf_of_next h
  refine ⟨?settings, ?mirrorRow, fun hi => ht ▸ (exec_inner_hostOwned hi s).2⟩
  case mirrorRow =>
    intro hm
    obtain ⟨m, l, w, e⟩ := exec_port_frame hm s
    rw [← ht, e]
  case settings =>
    rintro (hm | hi)
    · obtain ⟨m, l, w, e⟩ := exec_port_frame hm s
      rw [← ht, e]
      exact ⟨rfl, rfl, rfl, fun _ => rfl, rfl, rfl, rfl, rfl, rfl, rfl, rfl, rfl, rfl, rfl,
        fun _ => ⟨rfl, rfl⟩⟩
    · have howned := (exec_inner_hostOwned hi s).1
      rw [ht] at howned
      simp only [State.hostOwned, HostOwned.mk.injEq, Events.settings, EventSettings.mk.injEq,
        Timebase.settings, TimerSettings.mk.injEq] at howned
      obtain ⟨hbankA, hbankB, hlimits, hlanes, ⟨hsources, hthreshold, hpolarity⟩,
        ⟨hdivider, hmode, hedge, hpolicy, hperiod⟩, hwindow, hreset⟩ := howned
      refine ⟨hbankA, hbankB, hlimits, congrFun hlanes, hsources, hthreshold, hpolarity, hdivider, hmode,
        hedge, hpolicy, hperiod, ?_, hreset, fun hquiet => ?_⟩
      · exact congrArg (fun w : Window => { w with lastRead := t.window.lastRead }) hwindow
      · rw [← ht]
        refine exec_inner_unread hi fun hmay => ?_
        rcases hquiet with ⟨hend, htick, hexpiry, hwait⟩ | hnone
        · rw [mayEndFrame_eq_false hend htick hexpiry hwait] at hmay
          exact nomatch hmay
        · exact readsOnlyIf_false hnone

/-! ### The mirror port (R143, R146) -/

theorem Mirror.underWay_iff (m : Mirror) :
    m.underWay = true ↔ m.transaction = .request ∨ m.transaction = .response := by
  unfold Mirror.underWay
  cases m.transaction <;> simp

/-- Whether the port is legal shows in the progress of its transaction. -/
theorem MirrorLegal.congr {s t : State} (h : MirrorLegal s) (hprogress : t.mirror.progress = s.mirror.progress)
    (hreset : t.inReset = s.inReset) : MirrorLegal t := by
  simp only [Mirror.progress, Progress.mk.injEq] at hprogress
  obtain ⟨htransaction, hcount, hcommand, hmdo, hmsel⟩ := hprogress
  have hunder : t.mirror.underWay = s.mirror.underWay := by
    simp only [Mirror.underWay, htransaction]
  exact ⟨by rw [hreset, htransaction]; exact h.inReset, by rw [hmdo, hunder]; exact h.driven,
    by rw [htransaction, hmsel]; exact h.selected,
    by rw [htransaction, hcount, hcommand]; exact h.asking⟩

/-- With no transaction under way the port is legal where MDO is not driven. -/
theorem mirrorLegal_of_idle {s : State} (h : s.mirror.transaction = .idle) (hmdo : s.mirror.mdo = none) :
    MirrorLegal s :=
  ⟨fun _ => h, by simp [Mirror.underWay, h, hmdo], fun hne => absurd h hne, by simp [h]⟩

theorem mirrorLegal_of_response {s : State} (h : s.mirror.transaction = .response)
    (hreset : s.inReset = false) (hmdo : s.mirror.mdo.isSome = true) (hmsel : s.mirror.mselAsserted = true) :
    MirrorLegal s :=
  ⟨by simp [hreset], by simp [Mirror.underWay, h, hmdo], fun _ => hmsel, by simp [h]⟩

theorem recordError_progress (m : Mirror) (e : MirrorError) (command : Option Byte) :
    (m.recordError e command).progress = m.progress := by
  unfold Mirror.recordError
  split <;> rfl

theorem mirrorReadSlot_progress (command b : Byte) (s : State) :
    (mirrorReadSlot command b s).mirror.progress = s.mirror.progress := by
  unfold mirrorReadSlot
  split
  · exact recordError_progress ..
  · rfl

/-- The action of a request leaves the progress of the transaction as it is. -/
theorem performRequest_progress (s : State) :
    (performRequest s).mirror.progress = s.mirror.progress := by
  simp only [performRequest]
  split_ifs
  · exact mirrorReadSlot_progress ..
  · exact mirrorReadSlot_progress ..
  · rfl
  · rfl
  · rfl
  · rfl
  · exact recordError_progress ..

theorem portOp_inReset {f : State → State} (hf : PortOp f) (s : State) : (f s).inReset = s.inReset :=
  (hf s).keeps (P := fun t => t.inReset = s.inReset) (fun _ _ h hu => (portUpdate_queue h).2.trans hu) rfl

theorem requestComplete_legal {s : State} (hreset : s.inReset = false) (hmdo : s.mirror.mdo.isSome = true)
    (hmsel : s.mirror.mselAsserted = true) : MirrorLegal (requestComplete s) := by
  refine MirrorLegal.congr (s := setMirror { s.mirror with transaction := .response } s) ?_
    (performRequest_progress _) (portOp_inReset performRequest_op _)
  exact mirrorLegal_of_response rfl hreset hmdo hmsel

section
variable {s : State} (h : MirrorLegal s) (hreset : s.inReset = false)
include h

theorem MirrorLegal.driven_of_underWay (hw : s.mirror.underWay = true) :
    s.mirror.mdo.isSome = true ∧ s.mirror.mselAsserted = true := by
  refine ⟨h.driven.trans hw, h.selected ?_⟩
  rcases (Mirror.underWay_iff _).1 hw with ht | ht <;> simp [ht]

theorem endPeriod_legal : MirrorLegal (endPeriod s) := by
  unfold endPeriod
  split
  · exact h.congr rfl rfl
  · exact h

theorem present_legal (hw : s.mirror.underWay = true) : MirrorLegal (setMirror s.mirror.present s) :=
  ⟨h.inReset, hw.symm, h.selected, h.asking⟩

include hreset

theorem receiveRequest_legal (command argument : Byte) : MirrorLegal (receiveRequest command argument s) := by
  rcases receiveRequest_cases command argument s with e | ⟨htransaction, -, e⟩ <;> rw [e]
  · exact h
  · exact requestComplete_legal hreset rfl (h.selected (by simp [htransaction]))

/-- A capture edge leaves a request incomplete or completes it. -/
theorem captureBit_legal (bit : Bool) : MirrorLegal (captureBit bit s) := by
  cases htransaction : s.mirror.transaction with
  | idle | abandoned =>
    have e : captureBit bit s = s := by
      simp [captureBit, Mirror.capture, htransaction, Mirror.requestDone, setMirror]
    rw [e]; exact h
  | response =>
    obtain ⟨hmdo, hmsel⟩ := h.driven_of_underWay ((Mirror.underWay_iff _).2 (.inr htransaction))
    have e : captureBit bit s = setMirror { s.mirror with bitCount := s.mirror.bitCount + 1 } s := by
      simp [captureBit, Mirror.capture, htransaction, Mirror.requestDone]
    rw [e]
    exact mirrorLegal_of_response htransaction hreset hmdo hmsel
  | request =>
    obtain ⟨hmdo, hmsel⟩ := h.driven_of_underWay ((Mirror.underWay_iff _).2 (.inl htransaction))
    obtain ⟨hcount, hargument⟩ := h.asking htransaction
    have hcaptured : (s.mirror.capture bit).mdo = s.mirror.mdo ∧
        (s.mirror.capture bit).mselAsserted = s.mirror.mselAsserted ∧
        (s.mirror.capture bit).transaction = .request ∧
        (s.mirror.capture bit).bitCount = s.mirror.bitCount + 1 ∧
        (8 ≤ s.mirror.bitCount → (s.mirror.capture bit).command = s.mirror.command) := by
      simp only [Mirror.capture, htransaction]
      split
      · exact ⟨rfl, rfl, rfl, rfl, fun _ => by omega⟩
      · exact ⟨rfl, rfl, rfl, rfl, fun _ => rfl⟩
    obtain ⟨hmdo', hmsel', htransaction', hcount', hcommand'⟩ := hcaptured
    simp only [captureBit]
    split
    · exact requestComplete_legal hreset (by simpa [hmdo'] using hmdo) (by simpa [hmsel'] using hmsel)
    next hopen =>
      simp only [setMirror_mirror, Mirror.requestDone, requestBits, htransaction', hcount', decide_true,
        Bool.true_and, Bool.and_eq_true, decide_eq_true_eq, not_and] at hopen
      have hbits : s.mirror.bitCount + 1 < 16 ∧
          (8 ≤ s.mirror.bitCount + 1 → takesArgument (s.mirror.capture bit).command = true) := by
        by_cases h8 : 8 ≤ s.mirror.bitCount
        · have htakes := hargument h8
          rw [← hcommand' h8] at htakes
          have := hopen (by omega)
          simp only [htakes, if_true] at this
          exact ⟨by omega, fun _ => htakes⟩
        · refine ⟨by omega, fun h7 => ?_⟩
          have := hopen h7
          by_cases htakes : takesArgument (s.mirror.capture bit).command = true
          · exact htakes
          · simp only [htakes, if_neg Bool.false_ne_true] at this
            omega
      refine ⟨by simp [hreset], ?_, fun _ => by simpa [hmsel'] using hmsel, fun _ => ?_⟩
      · simp [hmdo', hmdo, Mirror.underWay, htransaction']
      · simpa [hcount'] using hbits

theorem leadingEdge_legal (hw : s.mirror.underWay = true) (bit : Bool) : MirrorLegal (leadingEdge bit s) := by
  have hopened : MirrorLegal (setMirror { s.mirror with inPeriod := true } s) := h.congr rfl rfl
  simp only [leadingEdge]
  split
  · exact present_legal hopened hw
  · exact captureBit_legal hopened hreset bit

theorem trailingEdge_legal (hw : s.mirror.underWay = true) (bit : Bool) :
    MirrorLegal (trailingEdge bit s) := by
  have hclosed : MirrorLegal (setMirror { s.mirror with inPeriod := false } s) := h.congr rfl rfl
  simp only [trailingEdge]
  split
  · exact endPeriod_legal (captureBit_legal hclosed hreset bit)
  · refine present_legal (endPeriod_legal hclosed) ?_
    unfold endPeriod
    split <;> exact hw

theorem mclkSample_legal (level mdi : Bool) : MirrorLegal (mclkSample level mdi s) := by
  have hlevel : MirrorLegal (setMirror { s.mirror with mclk := level } s) := h.congr rfl rfl
  unfold mclkSample
  split
  next hedge =>
    obtain ⟨hw, -⟩ := Bool.and_eq_true_iff.1 hedge
    simp only
    split_ifs
    · exact leadingEdge_legal hlevel hreset hw mdi
    · exact trailingEdge_legal hlevel hreset hw mdi
    · exact hlevel
  next => exact h

theorem nextRunRecord_legal (hrun : s.mirror.inRun = true) : MirrorLegal (nextRunRecord s) := by
  have htransaction : s.mirror.transaction = .response := by
    simp only [Mirror.inRun, Bool.and_eq_true, decide_eq_true_eq] at hrun
    exact hrun.1.1
  obtain ⟨-, hmsel⟩ := h.driven_of_underWay ((Mirror.underWay_iff _).2 (.inr htransaction))
  simp only [nextRunRecord]
  split <;> exact mirrorLegal_of_response htransaction hreset rfl hmsel

theorem assertSelect_legal (mclk : Bool) (hmsel : s.mirror.mselAsserted = false) :
    MirrorLegal (setMirror (s.mirror.assertSelect mclk) s) := by
  have hidle : s.mirror.transaction = .idle := by
    by_contra hne
    exact nomatch hmsel.symm.trans (h.selected hne)
  have hmdo : s.mirror.mdo = none := by
    have hdriven := h.driven
    rw [Mirror.underWay, hidle] at hdriven
    exact Option.isNone_iff_eq_none.1 (by simpa using hdriven)
  unfold Mirror.assertSelect
  cases hon : s.mirror.cfg.enable with
  | true =>
    simp only [if_true]
    exact ⟨by simp [hreset], rfl, fun _ => rfl, fun _ => ⟨Nat.zero_lt_succ _, by simp⟩⟩
  | false => exact mirrorLegal_of_idle hidle hmdo

omit h hreset in
theorem releaseSelect_legal : MirrorLegal (setMirror s.mirror.releaseSelect s) := by
  have hclosed : MirrorLegal
      (setMirror { s.mirror with mselAsserted := false, transaction := .idle, mdo := none } s) :=
    mirrorLegal_of_idle rfl rfl
  simp only [Mirror.releaseSelect]
  split
  · exact hclosed.congr (recordError_progress ..) rfl
  all_goals exact hclosed

omit hreset in
/-- A row of the mirror port keeps it legal where its operation does so in a device that runs. -/
theorem running_legal {f : State → State} (hf : s.inReset = false → MirrorLegal (f s)) :
    MirrorLegal (stateOf s (running f s)) := by
  unfold running whenRunning
  cases hr : s.inReset with
  | true => exact h
  | false => exact hf hr

omit hreset in
theorem when_legal {p : State → Bool} {f : State → State} (hf : p s = true → MirrorLegal (f s)) :
    MirrorLegal (when p f s) := by
  unfold when
  split
  next hp => exact hf hp
  next => exact h

end

theorem mirrorLegal_port {c : Instr} (hc : isMirrorRow c = true) {s : State} (h : MirrorLegal s) :
    MirrorLegal (stateOf s (exec c s)) := by
  cases c with
  | mselAssert mclk =>
    refine running_legal h fun hr => when_legal h fun hp => assertSelect_legal h hr mclk ?_
    simpa using hp
  | mselDeassert => exact running_legal h fun _ => when_legal h fun _ => releaseSelect_legal
  | readSlot slot => exact running_legal h fun hr => receiveRequest_legal h hr _ slot
  | readRun slot => exact running_legal h fun hr => receiveRequest_legal h hr _ slot
  | readRunNextRecord => exact running_legal h fun hr => when_legal h fun hp => nextRunRecord_legal h hr hp
  | readState => exact running_legal h fun hr => receiveRequest_legal h hr _ _
  | peekAlert => exact running_legal h fun hr => receiveRequest_legal h hr _ _
  | ackAlert serial => exact running_legal h fun hr => receiveRequest_legal h hr _ serial
  | postNote note => exact running_legal h fun hr => receiveRequest_legal h hr _ note
  | mirrorUnknownCommand command =>
    exact running_legal h fun hr => when_legal h fun _ => receiveRequest_legal h hr command _
  | mclkEdge level mdi => exact running_legal h fun hr => mclkSample_legal h hr level mdi
  | _ => exact nomatch hc

theorem mirrorLegal_softReset {s : State} (h : MirrorLegal s) : MirrorLegal (softReset s) := by
  have hselected := h.selected
  have hidle := h.inReset
  cases htransaction : s.mirror.transaction with
  | idle => exact mirrorLegal_of_idle (by simp [Mirror.softReset, htransaction]) rfl
  | request | response | abandoned =>
    rw [htransaction] at hselected hidle
    refine ⟨fun hr => (nomatch hidle hr), ?_, fun _ => hselected nofun, ?_⟩ <;>
      simp [Mirror.softReset, Mirror.underWay, htransaction]

theorem mirrorLegal_row {s t : State} (hst : RowUpdate s t) (h : MirrorLegal s) : MirrorLegal t := by
  cases hst with
  | inner hin =>
    obtain ⟨-, hmirror⟩ := innerUpdate_hostOwned hin
    exact h.congr (congrArg _ hmirror) (innerUpdate_queue hin).2
  | port c hc => exact mirrorLegal_port hc h
  | host hho =>
    cases hho with
    | mirror m hm => exact h.congr hm rfl
    | softReset => exact mirrorLegal_softReset h
    | staged => exact h.congr (by simp) (by simp)
    | claimed => exact h.congr (by simp) (by simp)
    | _ => exact h.congr rfl rfl

/-- The port stands idle in power-on reset, so MSEL as the release finds it opens no transaction (R158). -/
theorem mirrorLegal_release {s : State} (ftrig msel : Bool) (h : MirrorLegal s) (hr : s.inReset = true) :
    MirrorLegal (release ftrig msel s) := by
  have hidle := h.inReset hr
  have hdriven := h.driven
  rw [Mirror.underWay, hidle] at hdriven
  exact mirrorLegal_of_idle hidle (Option.isNone_iff_eq_none.1 (by simpa [release] using hdriven))

/-- Settles O60: MDO is driven by the rows that leave a transaction in REQUEST or RESPONSE, and a capture edge
completes a request at its last bit. -/
theorem stepKeepsMirrorLegal : Obligations.StepKeepsMirrorLegal := fun _ _ hs hstep =>
  step_keeps MirrorLegal (fun _ _ h => h.congr rfl rfl) (fun _ _ => mirrorLegal_row)
    (fun _ _ => mirrorLegal_of_idle rfl rfl) (fun _ _ _ h hr => mirrorLegal_release _ _ h hr) hs hstep

end Sys2Proof.Machine
end

section
/-! Proofs about completions and lanes: what the controller and the lanes look like after an operation of a lane,
said once, for every invariant that speaks of them. -/

namespace Sys2Proof.Machine

/-! ### What a completion leaves of the scan controller -/

/-- The counts of a report that the walker makes, which no completion touches (R31, R32, R34). -/
def FrameReport.walked (r : FrameReport) : Nat × Nat × Nat × Nat := (r.due, r.issued, r.gateSkipped, r.rejected)

/-- The completions a report counts, under whatever outcome (R39). -/
def FrameReport.accounted (r : FrameReport) : Nat := r.completed + r.faulted + r.laneSkipped + r.aborted

/-- What completions can do to the scan controller: count in the report, and release a walker that holds for a
gate, to the next index or past the last (R36, R39). -/
structure Released (c d : Ctrl) : Prop where
  fixed  : d.fixed = c.fixed
  walked : d.current.walked = c.current.walked
  walker : d = { c with current := d.current } ∨ (c.walker = .heldGate ∧
    ((d.walker = .issuing ∧ d.position.val = c.position.val + 1) ∨ d.walker = .draining))

namespace Released

variable {c d e : Ctrl}

theorem refl : Released c c := ⟨rfl, rfl, .inl rfl⟩

theorem trans (h : Released c d) (hde : Released d e) : Released c e := by
  obtain ⟨hfixed, hwalked, hwalker⟩ := h
  obtain ⟨hfixed', hwalked', hwalker'⟩ := hde
  refine ⟨hfixed'.trans hfixed, hwalked'.trans hwalked, ?_⟩
  rcases hwalker with hcount | ⟨hheld, hnext⟩
  · rcases hwalker' with hcount' | ⟨hheld', hnext'⟩
    · exact .inl (by rw [hcount', hcount])
    · rw [hcount] at hheld' hnext'
      exact .inr ⟨hheld', hnext'⟩
  · rcases hwalker' with hcount' | ⟨hheld', -⟩
    · rw [hcount']
      exact .inr ⟨hheld, hnext⟩
    · rw [hheld'] at hnext
      rcases hnext with ⟨h, -⟩ | h <;> exact nomatch h

/-- A walker that holds for no gate is not released. -/
theorem of_not_held (h : Released c d) (hheld : c.walker ≠ .heldGate) : d = { c with current := d.current } :=
  h.walker.resolve_right fun ⟨hw, _⟩ => hheld hw

theorem walker_eq (h : Released c d) (hheld : c.walker ≠ .heldGate) : d.walker = c.walker := by
  rw [h.of_not_held hheld]

theorem walker_ne_idle (h : Released c d) (hc : c.walker ≠ .idle) : d.walker ≠ .idle := by
  rcases h.walker with hcount | ⟨-, ⟨hw, -⟩ | hw⟩
  · rw [hcount]
    exact hc
  · simp [hw]
  · simp [hw]

/-- A walker that holds for a queue has not been released to it. -/
theorem of_heldQueue (h : Released c d) (hd : d.walker = .heldQueue) : d = { c with current := d.current } := by
  rcases h.walker with hcount | ⟨-, ⟨hw, -⟩ | hw⟩
  · exact hcount
  · exact nomatch hd.symm.trans hw
  · exact nomatch hd.symm.trans hw

end Released

theorem countOutcome_walked (r : FrameReport) (o : ItemOutcome) : (r.countOutcome o).walked = r.walked := by
  cases o <;> rfl

theorem countOutcome_accounted (r : FrameReport) (o : ItemOutcome) :
    (r.countOutcome o).accounted = r.accounted + 1 := by
  cases o <;> simp only [FrameReport.countOutcome, FrameReport.accounted] <;> omega

theorem advance_moves (c : Ctrl) :
    (c.advance.walker = .issuing ∧ c.advance.position.val = c.position.val + 1) ∨ c.advance.walker = .draining := by
  unfold Ctrl.advance
  split <;> simp

/-- A judged gate moves the walker on. -/
theorem judgeGate_moves (e : Entry) (o : ItemOutcome) (c : Ctrl) :
    ((judgeGate e o c).walker = .issuing ∧ (judgeGate e o c).position.val = c.position.val + 1) ∨
      (judgeGate e o c).walker = .draining := by
  unfold judgeGate
  split <;> exact advance_moves _

theorem ctrlTake_released (it : Item) (o : ItemOutcome) (s : State) :
    Released s.ctrl (ctrlTake it o s).ctrl := by
  refine ⟨ctrlTake_fixed s it o, by rw [ctrlTake_current, countOutcome_walked], ?_⟩
  simp only [ctrlTake]
  split
  next h =>
    simp only [awaitsGate, Bool.and_eq_true, decide_eq_true_eq] at h
    obtain ⟨⟨-, hheld⟩, -⟩ := h
    exact .inr ⟨hheld, judgeGate_moves _ o _⟩
  next => exact .inl rfl

theorem complete_released (n : Fin 4) (it : Item) (o : ItemOutcome) (s : State) :
    Released s.ctrl (complete n it o s).ctrl := by
  have h := ctrlTake_released it o (beforeCtrl n it o s)
  rwa [(beforeCtrl_still s n it o).2.1, ← complete_eq] at h

theorem completeAll_released (n : Fin 4) (o : ItemOutcome) (l : List Item) (s : State) :
    Released s.ctrl (completeAll n o l s).ctrl := by
  induction l generalizing s with
  | nil => exact .refl
  | cons it l ih => exact (complete_released n it o s).trans (ih _)

theorem completeAll_accounted (n : Fin 4) (o : ItemOutcome) (l : List Item) (s : State) :
    (completeAll n o l s).ctrl.current.accounted = s.ctrl.current.accounted + l.length := by
  induction l generalizing s with
  | nil => rfl
  | cons it l ih =>
    rw [completeAll_cons, ih, complete_current, countOutcome_accounted, List.length_cons]
    omega

/-! ### What an operation of a lane leaves of the lane -/

/-- The lane after it has settled (R54, R67). -/
def Lane.settled (l : Lane) : Lane :=
  match l.phase with
  | .halted => { l with queue := [] }
  | _ => l.takeHead

/-- The items that a lane completes SKIPPED as it settles (R67). -/
def Lane.skipped (l : Lane) : List Item :=
  match l.phase with
  | .halted => l.queue
  | _ => []

/-- The lane whose item has ended with an outcome, before it settles (R66, R67). -/
def Lane.ended (l : Lane) (o : ItemOutcome) : Lane := { l with phase := phaseAfter l.cfg o }

/-- The lane with one more item waiting (R34). -/
def Lane.queued (l : Lane) (it : Item) : Lane := { l with queue := l.queue ++ [it] }

/-- The lane after an abort request (R70). -/
def Lane.aborted (l : Lane) : Lane :=
  match l.phase with
  | .disabled => l
  | .halted => l
  | _ => { l with phase := .idle, queue := [] }

/-- The items that an abort request ends on a lane (R70). -/
def Lane.abortedItems (l : Lane) : List Item :=
  match l.phase with
  | .disabled => []
  | .halted => []
  | _ => l.items

section
variable (s : State) (n : Fin 4)

/-- Settling a lane is its new content and the completions of what it skips. -/
theorem settleLane_eq :
    settleLane n s = completeAll n .skipped (s.lanes[n]).skipped (setLane n (s.lanes[n]).settled s) := by
  simp only [settleLane, Lane.settled, Lane.skipped]
  cases (s.lanes[n]).phase <;> rfl

@[simp] theorem settleLane_lanes :
    (settleLane n s).lanes = s.lanes.set n.val (s.lanes[n]).settled n.isLt := by
  rw [settleLane_eq, completeAll_lanes, setLane_lanes]

@[simp] theorem settleItem_lanes (it : Item) (o : ItemOutcome) :
    (settleItem n it o s).lanes = s.lanes.set n.val ((s.lanes[n]).ended o).settled n.isLt := by
  simp [settleItem, Lane.ended]

@[simp] theorem enqueue_lanes (it : Item) :
    (enqueue n it s).lanes = s.lanes.set n.val ((s.lanes[n]).queued it).settled n.isLt := by
  simp [enqueue, Lane.queued]

theorem abortLane_eq :
    abortLane s n = completeAll n .aborted (s.lanes[n]).abortedItems (setLane n (s.lanes[n]).aborted s) := by
  have hself : setLane n s.lanes[n] s = s := by simp [setLane]
  simp only [abortLane, Lane.aborted, Lane.abortedItems]
  cases (s.lanes[n]).phase with
  | disabled | halted => exact hself.symm
  | _ => rfl

@[simp] theorem abortLane_lanes :
    (abortLane s n).lanes = s.lanes.set n.val (s.lanes[n]).aborted n.isLt := by
  rw [abortLane_eq, completeAll_lanes, setLane_lanes]

theorem settleLane_released : Released s.ctrl (settleLane n s).ctrl := by
  rw [settleLane_eq]
  exact completeAll_released n .skipped _ (setLane n (s.lanes[n]).settled s)

theorem settleItem_released (it : Item) (o : ItemOutcome) : Released s.ctrl (settleItem n it o s).ctrl := by
  refine (complete_released n it o s).trans ?_
  exact settleLane_released (setLane n _ (complete n it o s)) n

theorem enqueue_released (it : Item) : Released s.ctrl (enqueue n it s).ctrl :=
  settleLane_released (setLane n _ s) n

theorem abortLane_released : Released s.ctrl (abortLane s n).ctrl := by
  rw [abortLane_eq]
  exact completeAll_released n .aborted _ (setLane n (s.lanes[n]).aborted s)

end

/-! ### Where the walker stands after an entry -/

/-- The controller of a walker that has issued the entry at its position, before its item settles (R34). -/
def Ctrl.issued (c : Ctrl) (k : ItemKind) : Ctrl :=
  let counted := { c with
    current := { c.current with due := c.current.due + 1, issued := c.current.issued + 1 } }
  if k = .gate then { counted with walker := .heldGate } else counted.advance

theorem issueEntry_eq (k : ItemKind) (e : Entry) (s : State) :
    issueEntry k e s =
      enqueue e.lane (makeItem s.ctrl.position k e s.ctrl.frame) { s with ctrl := s.ctrl.issued k } := rfl

/-- An issue leaves the walker at the gate, at the next index, or past the last one. -/
theorem issued_moves (c : Ctrl) (k : ItemKind) :
    ((c.issued k).walker = .heldGate ∧ (c.issued k).position = c.position) ∨
      ((c.issued k).walker = .issuing ∧ (c.issued k).position.val = c.position.val + 1) ∨
      (c.issued k).walker = .draining := by
  unfold Ctrl.issued
  split
  · exact .inl ⟨rfl, rfl⟩
  · exact .inr (advance_moves _)

theorem issueEntry_walker (k : ItemKind) (e : Entry) (s : State) :
    (issueEntry k e s).ctrl.walker ≠ .idle ∧ (issueEntry k e s).ctrl.walker ≠ .heldQueue := by
  rw [issueEntry_eq]
  have hreleased := enqueue_released { s with ctrl := s.ctrl.issued k } e.lane
    (makeItem s.ctrl.position k e s.ctrl.frame)
  have hmoves := issued_moves s.ctrl k
  refine ⟨hreleased.walker_ne_idle ?_, fun hw => ?_⟩
  · rcases hmoves with ⟨h, -⟩ | ⟨h, -⟩ | h <;> simp [h]
  · have hcounted := congrArg Ctrl.walker (hreleased.of_heldQueue hw)
    rw [hw] at hcounted
    rcases hmoves with ⟨h, -⟩ | ⟨h, -⟩ | h <;> exact nomatch hcounted.trans h

/-- The walker after an entry is not idle. -/
theorem walkEntry_walker_ne_idle (s : State) : (walkEntry s).ctrl.walker ≠ .idle := by
  have hadvance (c : Ctrl) : c.advance.walker ≠ .idle := by
    rcases advance_moves c with ⟨h, -⟩ | h <;> simp [h]
  simp only [walkEntry]
  split
  · split
    · split
      · exact hadvance _
      · rcases takeDueEntry_cases _ _ s with ⟨why, -, h⟩ | ⟨-, -, h⟩ | ⟨-, -, h⟩ <;> rw [h]
        · exact hadvance _
        · exact (issueEntry_walker _ _ s).1
        · exact nofun
    · exact hadvance _
  · split
    · exact nofun
    · exact hadvance _

end Sys2Proof.Machine
end

section
/-! Proofs about invariants of the scan controller, the timer and the lanes: the part of the state that they speak
of, what it takes to keep one, and that every row then keeps it. -/

namespace Sys2Proof.Machine

/-! ### The part of the state that the invariants of a frame speak of -/

/-- The scan controller, the lanes, the timer's count and the active bank, without what is only recorded there. -/
structure Core where
  state         : CtrlState
  walker        : WalkerState
  position      : Fin 64
  window        : Option SkipWindow
  frame         : Word
  stopPending   : Bool
  deferred      : Bool
  abortMark     : Bool
  commitPending : Bool
  number        : Word
  walked        : Nat × Nat × Nat × Nat
  accounted     : Nat
  lanes         : Vector Lane 4
  counting      : Bool
  mode          : TimerMode
  count         : Word
  bank          : Bank

def State.core (s : State) : Core :=
  ⟨s.ctrl.state, s.ctrl.walker, s.ctrl.position, s.ctrl.window, s.ctrl.frame, s.ctrl.stopPending,
    s.ctrl.deferred, s.ctrl.abortMark, s.ctrl.commitPending, s.ctrl.current.frame, s.ctrl.current.walked,
    s.ctrl.current.accounted, s.lanes, s.timer.counting, s.timer.mode, s.timer.count, activeBank s⟩

/-- An operation that leaves that part as it is. -/
def Quiet (f : State → State) : Prop := ∀ s, (f s).core = s.core

theorem takeRead_quiet (r : EventRead) : Quiet (takeRead · r) := by
  intro s
  show (takeRead s r).core = s.core
  rw [takeRead_eq]
  rfl

theorem takeReads_quiet (l : List EventRead) : Quiet (takeReads l) := fun s =>
  takeReads_keeps (fun t => t.core = s.core) (fun t r ht => (takeRead_quiet r t).trans ht) l s rfl

theorem exec_port_quiet {c : Instr} (hc : isMirrorRow c = true) (s : State) :
    (stateOf s (exec c s)).core = s.core := by
  obtain ⟨m, l, w, h⟩ := exec_port_frame hc s
  rw [h]
  rfl

/-! ### Waits within their ticks -/

/-- A wait or a pause has not lasted all its ticks, unless none has been counted yet (R57, R63). -/
def Within (c : LaneConfig) : LanePhase → Prop
  | .readyWait _ k => k = 0 ∨ k < c.readyTimeout.toNat
  | .pausing it k => k = 0 ∨ k < it.duration.toNat
  | _ => True

/-- The lanes whose wait or pause has lasted all its ticks. -/
def overdue (s : State) : Finset (Fin 4) := Finset.univ.filter fun n => timeoutReached n s || pauseReached n s

/-- A tick lets a timer count on. -/
theorem countTick_counting (t : Timebase) : t.countTick.counting = t.counting := by
  unfold Timebase.countTick
  split <;> rfl

/-! ### What it takes to keep an invariant -/

/-- What the operations of a tick and of the lanes' events keep: a property of the state up to the lanes whose
wait or pause is over, and up to a timer at 0 where the flag says so. -/
structure Endings (Q : Finset (Fin 4) → Bool → State → Prop) (ending : Ending) : Prop where
  meeting {L : Finset (Fin 4)} {b : Bool} {s : State} (h : Q L b s) : Q L b (takeMeeting s)
  ending {L : Finset (Fin 4)} {b : Bool} {s : State} {n : Fin 4} {it : Item} {o : ItemOutcome}
    (hit : (s.lanes[n]).phase.item = some it) (h : Q L b s) : Q (L.erase n) b (ending n it o s)
  within {L : Finset (Fin 4)} {b : Bool} {s : State} {n : Fin 4}
    (hn : Within (s.lanes[n]).cfg (s.lanes[n]).phase) (h : Q L b s) : Q (L.erase n) b s
  phase {L : Finset (Fin 4)} {b : Bool} {s : State} {n : Fin 4} {it : Item} {p : LanePhase}
    (hit : (s.lanes[n]).phase.item = some it) (hp : p.item = some it) (h : Q L b s) :
    Q (insert n L) b (setPhase n p s)
  tick {s : State} (h : Q ∅ false s) : Q (overdue (takeTick s)) s.timer.expiresNext (takeTick s)
  trigger {L : Finset (Fin 4)} {b : Bool} {s : State} (h : Q L b s) : Q L b (takeTrigger s)
  act {L : Finset (Fin 4)} {b : Bool} {s : State} (hc : s.timer.counting = true) (h : Q L b s) :
    Q L false (actAtExpiry s)

namespace Endings

variable {Q : Finset (Fin 4) → Bool → State → Prop} {e : Ending} (hq : Endings Q e)
include hq

theorem expireLane {L : Finset (Fin 4)} {b : Bool} {s : State} (n : Fin 4) (h : Q L b s) :
    Q (L.erase n) b (expireLane e n s) := by
  cases hp : (s.lanes[n]).phase with
  | readyWait it k =>
    simp only [Machine.expireLane, hp]
    exact hq.ending (by rw [hp]; rfl) h
  | pausing it k =>
    simp only [Machine.expireLane, hp]
    exact hq.ending (by rw [hp]; rfl) h
  | disabled | idle | shifting | gap | halted =>
    simp only [Machine.expireLane, hp]
    exact hq.within (by rw [hp]; trivial) h

/-- The lanes whose waits are over end them one after another, and none is left over. -/
theorem expireLanes {b : Bool} (ns : List (Fin 4)) {L : Finset (Fin 4)} {s : State}
    (hL : ∀ n ∈ L, n ∈ ns) (h : Q L b s) : Q ∅ b (expireLanes e ns s) := by
  induction ns generalizing L s with
  | nil =>
    have : L = ∅ := Finset.eq_empty_of_forall_notMem fun n hn => by simpa using hL n hn
    exact this ▸ h
  | cons n ns ih =>
    refine ih (L := L.erase n) (fun m hm => ?_) (hq.expireLane n h)
    obtain ⟨hne, hm⟩ := Finset.mem_erase.1 hm
    exact (List.mem_cons.1 (hL m hm)).resolve_left hne

omit hq in
theorem mem_endedLanes {first : List (Fin 4)} {s : State} {n : Fin 4} (hn : n ∈ overdue s) :
    n ∈ endedLanes first s := by
  rw [endedLanes, List.mem_filter]
  exact ⟨mem_tickOrder first n, by simpa [overdue] using hn⟩

theorem tickTimerFirst {s : State} (h : Q ∅ false s) : Q ∅ false (tickTimerFirst e s) := by
  have hcounts := hq.tick (hq.meeting h)
  have hcounting : s.timer.expiresNext = true → (takeTick (takeMeeting s)).timer.counting = true := by
    intro hx
    simp only [Timebase.expiresNext, Bool.and_eq_true] at hx
    rw [takeTick_timer, takeMeeting_timer, countTick_counting]
    exact hx.1
  refine hq.expireLanes _ (L := overdue (takeTick (takeMeeting s))) (fun n => mem_endedLanes) ?_
  rw [takeMeeting_timer] at hcounts
  unfold expireTimerIf
  cases hx : s.timer.expiresNext with
  | false =>
    rw [hx] at hcounts
    exact hcounts
  | true => exact hq.act (by rw [takeTrigger_timer]; exact hcounting hx) (hq.trigger hcounts)

theorem lateCount {s : State} {b : Bool} (n : Fin 4) (h : Q ∅ b s) : Q ∅ b (lateCount e s n) := by
  have hone {it : Item} {p : LanePhase} (hit : (s.lanes[n]).phase.item = some it) (hp : p.item = some it)
      (hw : Within (s.lanes[n]).cfg p) : Q ∅ b (setPhase n p s) := by
    have hset := hq.phase hit hp h
    have := hq.within (n := n) (by simpa using hw) hset
    simpa using this
  have hlast {it : Item} {p : LanePhase} (o : ItemOutcome) (hit : (s.lanes[n]).phase.item = some it)
      (hp : p.item = some it) : Q ∅ b (e n it o (setPhase n p s)) := by
    have hset := hq.phase hit hp h
    have := hq.ending (n := n) (o := o) (by simpa using hp) hset
    simpa using this
  rcases lateCount_cases e s n with
    he | ⟨it, hp, ⟨hk, he⟩ | ⟨-, he⟩⟩ | ⟨it, hp, ⟨hk, he⟩ | ⟨-, he⟩⟩ <;> rw [he]
  · exact h
  · exact hone (by rw [hp]; rfl) rfl (.inr hk)
  · exact hlast _ (by rw [hp]; rfl) rfl
  · exact hone (by rw [hp]; rfl) rfl (.inr hk)
  · exact hlast _ (by rw [hp]; rfl) rfl

theorem endGap {s : State} {b : Bool} (n : Fin 4) (h : Q ∅ b s) : Q ∅ b (endGap e n s) := by
  rcases endGap_cases e n s with ⟨it, o, hp, he⟩ | he <;> rw [he]
  · have := hq.ending (n := n) (o := o) (by rw [hp]; rfl) h
    simpa using this
  · exact h

theorem endShifting {s : State} {b : Bool} (n : Fin 4) (din : BitVec 64) (h : Q ∅ b s) :
    Q ∅ b (endShifting e n din s) := by
  rcases endShifting_cases e n din s with ⟨it, hp, o, -, ⟨-, he⟩ | ⟨-, he⟩⟩ | he <;> rw [he]
  · have hset := hq.phase (p := .gap it o) (n := n) (by rw [hp]; rfl) rfl h
    have := hq.ending (n := n) (it := it) (o := o) (by simp [LanePhase.item]) hset
    simpa using this
  · have hset := hq.phase (p := .gap it o) (n := n) (by rw [hp]; rfl) rfl h
    have := hq.within (n := n) (by simp [Within]) hset
    simpa using this
  · exact h

theorem sampleReady {s : State} {b : Bool} (n : Fin 4) (rdy : Bool) (h : Q ∅ b s) :
    Q ∅ b (sampleReady n rdy s) := by
  cases hp : (s.lanes[n]).phase with
  | readyWait it k =>
    simp only [Machine.sampleReady, hp]
    split
    · have hset := hq.phase (p := .shifting it) (n := n) (by rw [hp]; rfl) rfl h
      have := hq.within (n := n) (by simp [Within]) hset
      simpa using this
    · exact h
  | disabled | idle | shifting | gap | halted | pausing =>
    simp only [Machine.sampleReady, hp]
    exact h

end Endings

end Sys2Proof.Machine
end

section
/-! Proofs that every row keeps an invariant of the scan controller, the timer and the lanes which its operations
keep, and that the walker rests behind it. -/

namespace Sys2Proof.Machine

/-! ### What the operations of the blocks keep -/

/-- A property of the state, up to lanes whose waits are over and a timer at 0, that the operations of the scan
controller, the timer and the lanes keep, each where the model takes it. -/
structure Keeps (P : Finset (Fin 4) → Bool → State → Prop) : Prop where
  congr {L : Finset (Fin 4)} {b : Bool} {s t : State} (hcore : t.core = s.core) (h : P L b s) : P L b t
  idle {L : Finset (Fin 4)} {b : Bool} {s : State} (h : P L b s) (hs : s.ctrl.state = .stopped) :
    s.ctrl.walker = .idle
  calm {L : Finset (Fin 4)} {b : Bool} {s : State} (h : P L b s) (hs : s.ctrl.state = .waiting) : P ∅ b s
  settleItem {L : Finset (Fin 4)} {b : Bool} {s : State} {n : Fin 4} {it : Item} {o : ItemOutcome}
    (hit : (s.lanes[n]).phase.item = some it) (h : P L b s) : P (L.erase n) b (settleItem n it o s)
  within {L : Finset (Fin 4)} {b : Bool} {s : State} {n : Fin 4}
    (hn : Within (s.lanes[n]).cfg (s.lanes[n]).phase) (h : P L b s) : P (L.erase n) b s
  phase {L : Finset (Fin 4)} {b : Bool} {s : State} {n : Fin 4} {it : Item} {p : LanePhase}
    (hit : (s.lanes[n]).phase.item = some it) (hp : p.item = some it) (h : P L b s) :
    P (insert n L) b (setPhase n p s)
  settleLane {L : Finset (Fin 4)} {b : Bool} {s : State} (n : Fin 4) (h : P L b s) : P L b (settleLane n s)
  walkEntry {L : Finset (Fin 4)} {b : Bool} {s : State} (hw : s.ctrl.walker = .issuing) (h : P L b s) :
    P L b (walkEntry s)
  release {L : Finset (Fin 4)} {b : Bool} {s : State} {k : ItemKind} (hd : releaseDue s = true)
    (hk : (heldEntry s).itemKind = some k) (h : P L b s) : P L b (issueEntry k (heldEntry s) s)
  abortLane {L : Finset (Fin 4)} {b : Bool} {s : State} (n : Fin 4) (h : P L b s) : P L b (abortLane s n)
  tick {s : State} (h : P ∅ false s) : P (overdue (takeTick s)) s.timer.expiresNext (takeTick s)
  act {L : Finset (Fin 4)} {b : Bool} {s : State} (hc : s.timer.counting = true) (h : P L b s) :
    P L false (actAtExpiry s)
  begun {L : Finset (Fin 4)} {b : Bool} {s : State} (hs : s.ctrl.state = .waiting ∨ lanesEmpty s = true)
    (h : P L b s) : P L b (frameBegun s)
  stopped {L : Finset (Fin 4)} {b : Bool} {s : State} (hs : s.ctrl.state = .waiting ∨ lanesEmpty s = true)
    (h : P L b s) : P L b (stoppedFrom s)
  waiting {L : Finset (Fin 4)} {b : Bool} {s : State} (hl : lanesEmpty s = true)
    (hp : s.ctrl.stopPending = false) (hd : s.ctrl.deferred = false) (h : P L b s) :
    P L b { s with ctrl := { s.ctrl with state := .waiting, walker := .idle } }
  deferred {L : Finset (Fin 4)} {b : Bool} {s : State} {d : Bool} (hs : d = true → s.ctrl.state = .active)
    (h : P L b s) : P L b { s with ctrl := { s.ctrl with deferred := d } }
  start {s : State} (hs : s.ctrl.state = .stopped) (h : P ∅ false s) :
    P ∅ false { s with ctrl := { s.ctrl with state := .waiting }, timer := s.timer.load }
  stopping {s : State} (hs : s.ctrl.state = .active) (h : P ∅ false s) :
    P ∅ false { s with ctrl := { s.ctrl with stopPending := true } }
  aborting {s : State} (hs : s.ctrl.state = .active) (h : P ∅ false s) :
    P ∅ false { s with ctrl := { s.ctrl with stopPending := true, abortMark := true, walker := .draining } }
  swap {s : State} (hs : s.ctrl.state = .stopped) (h : P ∅ false s) : P ∅ false (swapBanks s)
  committed {s : State} {c : Bool} (hs : c = true → s.ctrl.state ≠ .stopped) (h : P ∅ false s) :
    P ∅ false { s with ctrl := { s.ctrl with commitPending := c } }
  clearHalt {s : State} (n : Fin 4) (h : P ∅ false s) : P ∅ false (setLane n (s.lanes[n]).clearHalt s)
  configure {s : State} {n k : Fin 4} {v : Word} {c : LaneConfig} (hs : s.ctrl.state = .stopped)
    (hc : (s.lanes[n]).cfg.setWord k v = some c) (h : P ∅ false s) :
    P ∅ false (setLane n ((s.lanes[n]).configure c) s)
  mode {s : State} (m : TimerMode) (hs : s.ctrl.state = .stopped) (h : P ∅ false s) :
    P ∅ false { s with timer := { s.timer with mode := m } }
  period {s : State} (v : Word) (h : P ∅ false s) :
    P ∅ false { s with timer := s.timer.writePeriod v }
  softReset {s : State} (h : P ∅ false s) : P ∅ false (softReset s)
  powerOn (s : State) : P ∅ false (powerOn s)

/-- The property, and a walker at rest. -/
def AndRest (P : Finset (Fin 4) → Bool → State → Prop) (L : Finset (Fin 4)) (b : Bool) (s : State) : Prop :=
  P L b s ∧ AtRest s

/-! ### States alike in that part -/

section
variable {s t : State} (h : t.core = s.core)
include h

theorem core_begin (n : Fin 16) :
    (raise n { t with ctrl := t.ctrl.begin }).core = (raise n { s with ctrl := s.ctrl.begin }).core := by
  have hlanes := congrArg Core.lanes h
  have hframe := congrArg Core.frame h
  have hbank := congrArg Core.bank h
  simp only [State.core, Core.mk.injEq] at *
  simp [Ctrl.begin, hlanes, hframe, h]
  exact hbank

end

namespace Keeps

variable {P : Finset (Fin 4) → Bool → State → Prop} (hk : Keeps P)
variable {L : Finset (Fin 4)} {b : Bool} {s : State}
include hk

theorem congr_rest {t : State} (hcore : t.core = s.core) (h : AndRest P L b s) : AndRest P L b t := by
  have hwalker : t.ctrl.walker = s.ctrl.walker := congrArg Core.walker hcore
  exact ⟨hk.congr hcore h.1, by rw [AtRest, hwalker]; exact h.2⟩

theorem runWalk (h : P L b s) : AndRest P L b (runWalk s) :=
  ⟨runWalk_keeps (P L b) (fun _ hw ht => hk.walkEntry hw ht) s h, runWalk_rest s⟩

/-! ### Frames and triggers -/

section
variable {meet : State → State} (hmeet : Quiet meet)
include hmeet

theorem frameStartMeeting (hs : s.ctrl.state = .waiting ∨ lanesEmpty s = true) (h : P L b s) :
    AndRest P L b (frameStartMeeting meet s) := by
  refine hk.runWalk (hk.congr ?_ (hk.begun hs h))
  have hswap : (meet (swapIfPending s)).core = (swapMade s).core :=
    (hmeet _).trans (congrArg State.core (swapIfPending_eq s))
  exact core_begin hswap srcFrameStart

theorem enterStoppedMeeting (hs : s.ctrl.state = .waiting ∨ lanesEmpty s = true) (h : P L b s) :
    AndRest P L b (enterStoppedMeeting meet s) := by
  have hcore : (Machine.enterStoppedMeeting meet s).core = (stoppedFrom s).core := by
    refine (hmeet _).trans ?_
    rw [← enterStopped_eq]
    rfl
  have hstopped := hk.stopped hs h
  exact hk.congr_rest hcore ⟨hstopped, nofun⟩

end

theorem endFrame {first second : State → State} (hfirst : Quiet first) (hsecond : Quiet second)
    (hd : frameEndDue s = true) (h : P L b s) : AndRest P L b (endFrame first second s) := by
  obtain ⟨hwalker, hempty⟩ := Bool.and_eq_true_iff.1 hd
  simp only [Machine.endFrame]
  generalize ht : first (raise srcFrameEnd { s with ctrl := s.ctrl.closeReport }) = t
  have hcore : t.core = s.core := by
    rw [← ht]
    exact hfirst _
  have hlanes : t.lanes = s.lanes := congrArg Core.lanes hcore
  have hempty' : lanesEmpty t = true := by
    rw [lanesEmpty, hlanes]
    exact hempty
  have htP := hk.congr hcore h
  split
  · exact hk.enterStoppedMeeting hsecond (.inr hempty') htP
  next hstop =>
    split
    · exact hk.frameStartMeeting hsecond (.inr hempty') (hk.deferred (d := false) nofun htP)
    next hdef =>
      refine hk.congr_rest (hsecond _) ⟨hk.waiting hempty' ?_ ?_ htP, nofun⟩
      · simpa using hstop
      · simpa using hdef

theorem meetFrameEnd (hd : frameEndDue s = true) (h : P L b s) : AndRest P L b (meetFrameEnd s) :=
  hk.endFrame (takeReads_quiet _) (takeReads_quiet _) hd (hk.congr (s := s) rfl h)

/-- A trigger keeps the property, and the rest of a walker that rests. -/
theorem takeTrigger (h : P L b s) : P L b (takeTrigger s) ∧ (AtRest s → AtRest (takeTrigger s)) := by
  rcases takeTrigger_cases s with e | ⟨hs, e⟩ | ⟨hs, -, e | e⟩ <;> rw [e]
  · exact ⟨h, id⟩
  · have hstart := hk.frameStartMeeting (meet := id) (fun _ => rfl) (.inl hs) h
    exact ⟨hstart.1, fun _ => hstart.2⟩
  · exact ⟨hk.deferred (fun _ => hs) h, id⟩
  · exact ⟨hk.congr (s := s) rfl h, id⟩

/-! ### Ticks and the ends of items -/

theorem endings : Endings P Machine.settleItem where
  meeting {_ _ s} h := hk.congr (s := s) rfl h
  ending := hk.settleItem
  within := hk.within
  phase := hk.phase
  tick := hk.tick
  trigger h := (hk.takeTrigger h).1
  act := hk.act

theorem endings_rest : Endings (AndRest P) finishItem where
  meeting {_ _ s} h := hk.congr_rest (s := s) rfl h
  ending hit h := hk.runWalk (hk.settleItem hit h.1)
  within hn h := ⟨hk.within hn h.1, h.2⟩
  phase hit hp h := ⟨hk.phase hit hp h.1, h.2⟩
  tick h := ⟨hk.tick h.1, h.2⟩
  trigger h := ⟨(hk.takeTrigger h.1).1, (hk.takeTrigger h.1).2 h.2⟩
  act hc h := ⟨hk.act hc h.1, h.2⟩

theorem takeAndRelease (hw : s.ctrl.walker = .heldQueue) (h : P L b s) :
    AndRest P L b (takeAndRelease s) := by
  have hsettled := hk.settleLane (heldEntry s).lane h
  have hheld : (Machine.settleLane (heldEntry s).lane s).ctrl.walker = .heldQueue := by
    rw [(settleLane_released s _).walker_eq (by simp [hw]), hw]
  simp only [Machine.takeAndRelease, when]
  split
  next hd =>
    simp only [releaseHeld]
    split
    next k hitem => exact hk.runWalk (hk.release hd hitem hsettled)
    next => exact ⟨hsettled, by rw [AtRest, hheld]; exact nofun⟩
  next => exact ⟨hsettled, by rw [AtRest, hheld]; exact nofun⟩

theorem lateStep (x : LateStep) (h : AndRest P ∅ b s) : AndRest P ∅ b (lateStep s x) :=
  lateStep_keeps (AndRest P ∅ b) (fun _ n ht => hk.endings_rest.lateCount n ht)
    (fun _ ht hw => hk.takeAndRelease hw ht.1) (fun _ ht hd => hk.meetFrameEnd hd ht.1) s x h

theorem lateSteps (l : List LateStep) (h : AndRest P ∅ b s) : AndRest P ∅ b (l.foldl Machine.lateStep s) :=
  foldl_keeps (AndRest P ∅ b) Machine.lateStep l (fun _ x _ ht => hk.lateStep x ht) s h

theorem tickTaken (h : AndRest P ∅ false s) : AndRest P ∅ false (tickTaken s) :=
  hk.lateSteps _ (hk.endings_rest.tickTimerFirst h)

theorem frameEndFirst (h : AndRest P ∅ b s) : AndRest P ∅ b (frameEndFirst s) := by
  have hends (t : State) (hd : frameEndDue t = true) (ht : AndRest P ∅ b t) :=
    frameEndsBefore_keeps (AndRest P ∅ b) (fun _ hu hd => hk.meetFrameEnd hd hu.1) t ht hd
  rcases frameEndFirst_cases s with ⟨hd, e⟩ | ⟨hw, hd, e⟩ | e <;> rw [e]
  · exact hends s hd h
  · exact hends _ hd (hk.takeAndRelease hw h.1)
  · exact h

theorem tickLaneFirst (n : Fin 4) (h : AndRest P ∅ false s) : AndRest P ∅ false (tickLaneFirst n s) := by
  have hcounts := hk.endings_rest.tick (hk.endings_rest.meeting h)
  rw [takeMeeting_timer] at hcounts
  have hall (m : Fin 4) (hm : m ∈ overdue (takeTick (takeMeeting s))) :
      m ∈ n :: (endedLanes (nextMeeting s).order (takeTick (takeMeeting s))).filter fun k => decide (k ≠ n) := by
    by_cases hmn : m = n
    · simp [hmn]
    · exact List.mem_cons_of_mem _ (List.mem_filter.2 ⟨Endings.mem_endedLanes hm, by simpa using hmn⟩)
  simp only [Machine.tickLaneFirst]
  split
  next hx =>
    have hcounting : (takeTick (takeMeeting s)).timer.counting = true := by
      obtain ⟨hc, -⟩ := Bool.and_eq_true_iff.1 hx
      rw [takeTick_timer, takeMeeting_timer, countTick_counting]
      exact hc
    have hended := hk.endings_rest.expireLanes _ hall (hk.endings_rest.act hcounting hcounts)
    exact hk.lateSteps _ (hk.endings_rest.trigger (hk.frameEndFirst (hk.lateSteps _ hended)))
  next hx =>
    rw [Bool.eq_false_iff.2 hx] at hcounts
    exact hk.lateSteps _ (hk.endings_rest.expireLanes _ hall hcounts)

omit hk in
theorem running {f : State → State} (h : AndRest P L b s) (hf : AndRest P L b (f s)) :
    AndRest P L b (stateOf s (running f s)) := by
  unfold Machine.running whenRunning
  split
  · exact h
  · exact hf

omit hk in
theorem when {f : State → State} {p : State → Bool} (h : AndRest P L b s)
    (hf : p s = true → AndRest P L b (f s)) : AndRest P L b (when p f s) := by
  unfold Machine.when
  split
  next hp => exact hf hp
  next => exact h

/-- Every row of the timebase, the lanes and the scan controller keeps the property. -/
theorem exec_inner {c : Instr} (hc : isInnerEvent c = true) (h : AndRest P ∅ false s) :
    AndRest P ∅ false (stateOf s (exec c s)) := by
  cases c with
  | tick => exact running h (hk.tickTaken h)
  | timerExpiry => exact running h (when h fun _ => hk.tickTaken h)
  | readyTimeout n => exact running h (when h fun _ => hk.tickLaneFirst n h)
  | pauseExpiry n => exact running h (when h fun _ => hk.tickLaneFirst n h)
  | frameEnd => exact running h (when h fun hd => hk.meetFrameEnd hd h.1)
  | heldQueueRelease => exact running h (when h fun hw => hk.takeAndRelease (of_decide_eq_true hw) h.1)
  | readySeen n rdy => exact running h (hk.endings_rest.sampleReady n rdy h)
  | shiftEnd n din => exact running h (hk.endings_rest.endShifting n din h)
  | gapEnd n => exact running h (hk.endings_rest.endGap n h)
  | ftrigEdge level =>
    have hkept := hk.congr_rest (s := s) (t := { s with timer := { s.timer with ftrig := level } }) rfl h
    refine running h ?_
    simp only [sampleFtrig]
    split
    · exact hk.endings_rest.trigger hkept
    · exact hkept
  | _ => exact nomatch hc

/-! ### Commands -/

theorem laneEnd (e : LaneEnd) (h : P ∅ false s) : P ∅ false (laneEnd s e) := by
  cases e with
  | gapEnd n => exact hk.endings.endGap n h
  | shiftEnd n din => exact hk.endings.endShifting n din h
  | tick =>
    exact foldl_keeps (P ∅ false) (lateCount Machine.settleItem) _
      (fun _ n _ ht => hk.endings.lateCount n ht) _ (hk.endings.tickTimerFirst h)

theorem stopWaiting (tickFirst : Bool) (hs : s.ctrl.state = .waiting) (h : P ∅ false s) :
    AndRest P ∅ false (stopWaiting tickFirst s) := by
  rw [stopWaiting_eq]
  refine ⟨hk.stopped (.inl ?_) ?_, nofun⟩
  · split <;> exact hs
  split
  next hx =>
    obtain ⟨hcounting, -⟩ := Bool.and_eq_true_iff.1 (Bool.and_eq_true_iff.1 hx).2
    refine hk.calm (hk.act ?_ (hk.tick h)) hs
    rw [takeTick_timer, countTick_counting]
    exact hcounting
  next => exact h

end Keeps

/-- The controller drains a frame that is to stop behind it, as an ABORT in ACTIVE leaves it (R45). -/
def Draining (s : State) : Prop :=
  s.ctrl.state = .active ∧ s.ctrl.stopPending = true ∧ s.ctrl.walker = .draining

namespace Draining

variable {s : State} (h : Draining s)
include h

theorem released {t : State} (ht : Released s.ctrl t.ctrl) : Draining t := by
  have hcounted := ht.of_not_held (by simp [h.2.2])
  rw [Draining, hcounted]
  exact h

theorem settleItem (n : Fin 4) (it : Item) (o : ItemOutcome) : Draining (settleItem n it o s) :=
  h.released (settleItem_released s n it o)

theorem takeTrigger : takeTrigger s = s := by
  obtain ⟨hstate, hstop, -⟩ := h
  simp [Machine.takeTrigger, hstate, hstop]

theorem lateCount (n : Fin 4) : Draining (lateCount Machine.settleItem s n) := by
  rcases lateCount_cases Machine.settleItem s n with
    e | ⟨it, -, ⟨-, e⟩ | ⟨-, e⟩⟩ | ⟨it, -, ⟨-, e⟩ | ⟨-, e⟩⟩ <;> rw [e]
  · exact h
  · exact h
  · exact settleItem (s := setPhase n (.readyWait it 1) s) h n it _
  · exact h
  · exact settleItem (s := setPhase n (.pausing it 1) s) h n it _

theorem laneEnd (e : LaneEnd) : Draining (laneEnd s e) :=
  laneEnd_keeps Draining (fun n it o _ ht => settleItem ht n it o) (fun _ _ _ ht => ht) (fun _ ht => ht)
    (fun t ht => by rw [expireTimer, takeTrigger ht]; exact ht) (fun _ ht => ht)
    (fun _ n ht => lateCount ht n) s e h

theorem abortLane (n : Fin 4) : Draining (abortLane s n) := h.released (abortLane_released s n)

theorem abortSteps (l : List AbortStep) : Draining (l.foldl abortStep s) :=
  foldl_keeps Draining abortStep l
    (fun t x _ ht => abortStep_keeps Draining (fun _ e hu => laneEnd hu e) (fun _ n hu => abortLane hu n) t x ht) s h

theorem abortLanes (l : List (Fin 4)) : Draining (l.foldl Machine.abortLane s) :=
  foldl_keeps Draining Machine.abortLane l (fun _ n _ ht => abortLane ht n) s h

end Draining

namespace Keeps

variable {P : Finset (Fin 4) → Bool → State → Prop} (hk : Keeps P)
variable {s : State}
include hk

theorem abortSteps (l : List AbortStep) (h : P ∅ false s) : P ∅ false (l.foldl abortStep s) :=
  foldl_keeps (P ∅ false) abortStep l (fun t x _ ht => abortStep_keeps (P ∅ false)
    (fun _ e hu => hk.laneEnd e hu) (fun _ n hu => hk.abortLane n hu) t x ht) s h

theorem abortLanes (l : List (Fin 4)) (h : P ∅ false s) : P ∅ false (l.foldl Machine.abortLane s) :=
  foldl_keeps (P ∅ false) Machine.abortLane l (fun _ n _ ht => hk.abortLane n ht) s h

theorem commandAbort (h : P ∅ false s) : AndRest P ∅ false (commandAbort s) := by
  simp only [Machine.commandAbort]
  generalize ht : (nextMeeting s).before.foldl Machine.laneEnd (takeMeeting s) = t
  have htP : P ∅ false t := ht ▸ foldl_keeps (P ∅ false) Machine.laneEnd _
    (fun _ e _ hu => hk.laneEnd e hu) _ (hk.congr (s := s) rfl h)
  have haccepted {u : State} (hu : AndRest P ∅ false u) : AndRest P ∅ false (accepted u) :=
    hk.congr_rest (s := u) rfl hu
  apply haccepted
  split
  next hs => exact ⟨htP, by rw [AtRest, hk.idle htP hs]; exact nofun⟩
  next hs => exact hk.stopWaiting _ hs htP
  next hs =>
    have hd : Draining { t with
      ctrl := { t.ctrl with stopPending := true, abortMark := true, walker := .draining } } := ⟨hs, rfl, rfl⟩
    obtain ⟨-, -, hw⟩ := (hd.abortSteps (nextMeeting s).between).abortLanes allLanes
    exact ⟨hk.abortLanes _ (hk.abortSteps _ (hk.aborting hs htP)), by rw [AtRest, hw]; exact nofun⟩

end Keeps

end Sys2Proof.Machine
end

section
/-! Proofs that every row of the host, and so every step, keeps such an invariant. -/

namespace Sys2Proof.Machine

/-! ### Host accesses that do not reach the scan controller, the timer and the lanes -/

theorem refuseWrite_quiet (err : AccessError) (addr : BitVec 5) : Quiet (refuseWrite err addr) := fun _ => rfl

theorem hostRead_quiet {f : State → State} (hf : Quiet f) (a : BitVec 5) : Quiet (hostRead a f) :=
  fun s => hf s

theorem setStagedBank_quiet (b : Bank) : Quiet (setStagedBank b) := by
  intro s
  have hbank := setStagedBank_active b s
  unfold setStagedBank at *
  split
  all_goals
    next h =>
      rw [h] at hbank
      simp only [State.core, Core.mk.injEq, true_and]
      exact hbank

theorem tableRead_quiet : Quiet tableRead := by
  intro s
  simp only [tableRead]
  split
  · split <;> rfl
  · rfl

theorem claim_quiet : Quiet claim := by
  intro s
  rcases claim_cases s with h | ⟨n, -, h⟩ <;> rw [h]
  rfl

theorem writeTableSel_quiet (v : Word) : Quiet (writeTableSel v) := by
  intro s
  unfold writeTableSel
  split <;> rfl

theorem writeTimerDiv_quiet (v : Word) : Quiet (writeTimerDiv v) := by
  intro s
  unfold writeTimerDiv
  split <;> rfl

theorem writeSampleSel_quiet (slot : Byte) (consume : Bool) : Quiet (writeSampleSel slot consume) := by
  intro s
  unfold writeSampleSel
  split <;> rfl

theorem writeAlertAck_quiet (v : Word) : Quiet (writeAlertAck v) := by
  intro s
  simp only [writeAlertAck]
  split <;> rfl

theorem writeDone_quiet (v : Word) : Quiet (writeDone v) := by
  intro s
  rcases writeDone_cases v s with ⟨err, h⟩ | ⟨top, rest, -, -, h⟩ <;> rw [h] <;> rfl

namespace Keeps

variable {P : Finset (Fin 4) → Bool → State → Prop} (hk : Keeps P)
variable {s : State} (h : AndRest P ∅ false s)
include hk h

theorem quiet {f : State → State} (hf : Quiet f) : AndRest P ∅ false (f s) := hk.congr_rest (hf s) h

theorem like {t : State} (hcore : t.core = s.core) : AndRest P ∅ false t := hk.congr_rest hcore h

theorem accepted : AndRest P ∅ false (accepted s) := hk.congr_rest (s := s) rfl h

theorem advanced : AndRest P ∅ false (advanceTable s) := hk.congr_rest (s := s) rfl h

omit hk in
/-- What leaves the walker as it is keeps its rest. -/
theorem resting {t : State} (ht : P ∅ false t) (hw : t.ctrl.walker = s.ctrl.walker) : AndRest P ∅ false t :=
  ⟨ht, by rw [AtRest, hw]; exact h.2⟩

/-! ### COMMAND -/

theorem commandStart : AndRest P ∅ false (commandStart s) := by
  unfold Machine.commandStart
  split
  next hs => exact hk.accepted (resting h (hk.start hs h.1) rfl)
  next => exact hk.congr_rest (s := s) rfl h

theorem commandStop : AndRest P ∅ false (commandStop s) := by
  unfold Machine.commandStop
  apply hk.accepted
  split
  next => exact h
  next hs => exact hk.stopWaiting _ hs (hk.congr (s := s) rfl h.1)
  next hs => exact resting h (hk.stopping hs h.1) rfl

theorem commandCommit : AndRest P ∅ false (commandCommit s) := by
  unfold Machine.commandCommit
  split
  · exact hk.congr_rest (s := s) rfl h
  · split
    · exact hk.congr_rest (s := s) rfl h
    · split
      next hs => exact hk.accepted (resting h (hk.swap hs h.1) rfl)
      next hs => exact hk.accepted (resting h (hk.committed (c := true) (fun _ => hs) h.1) rfl)

theorem commandClearLane : AndRest P ∅ false (commandClearLane s) := by
  unfold Machine.commandClearLane
  split
  · exact hk.accepted (resting h (hk.clearHalt _ h.1) rfl)
  · exact hk.congr_rest (s := s) rfl h

theorem eventRow (c : Instr) : AndRest P ∅ false (eventRow s c) := by
  cases hm : isMirrorRow c with
  | true =>
    rw [eventRow_exec s c (.inl hm)]
    exact hk.congr_rest (exec_port_quiet hm s) h
  | false =>
    cases hi : isInnerEvent c with
    | true =>
      rw [eventRow_exec s c (.inr hi)]
      exact hk.exec_inner hi h
    | false =>
      rw [eventRow_other s c hm hi]
      exact h

theorem commandSoftReset : AndRest P ∅ false (commandSoftReset s) := by
  have hmet : AndRest P ∅ false (meetSoftReset (nextMeeting s) s) :=
    meetSoftReset_keeps (AndRest P ∅ false) (nextMeeting s) s (fun _ c ht => hk.eventRow ht c)
      (fun t _ ht => hk.congr_rest (s := t) rfl ht) (hk.congr_rest (s := s) rfl h)
  have htaken : P ∅ false { meetSoftReset (nextMeeting s) s with meetings := s.meetings.tail } :=
    hk.congr (s := meetSoftReset (nextMeeting s) s) rfl hmet.1
  exact hk.congr_rest rfl (s := Machine.softReset { meetSoftReset (nextMeeting s) s with meetings := s.meetings.tail })
    ⟨hk.softReset htaken, nofun⟩

theorem writeCommand (v : Word) : AndRest P ∅ false (writeCommand v s) := by
  unfold Machine.writeCommand
  split
  · exact hk.commandStart h
  · exact hk.commandStop h
  · exact hk.commandAbort h.1
  · exact hk.accepted (hk.endings_rest.trigger h)
  · exact hk.commandCommit h
  · exact hk.accepted (resting h (hk.committed (c := false) nofun h.1) rfl)
  · exact hk.commandClearLane h
  · refine hk.quiet h (f := commandClearSlot) fun t => ?_
    unfold commandClearSlot
    split <;> rfl
  · exact hk.congr_rest (s := s) rfl h
  · exact hk.congr_rest (s := s) rfl h
  · exact hk.congr_rest (s := s) rfl h
  · exact hk.commandSoftReset h
  · exact hk.congr_rest (s := s) rfl h

/-! ### The table port and the timer's registers -/

theorem writeTableData (v : Word) : AndRest P ∅ false (writeTableData v s) := by
  unfold Machine.writeTableData
  split
  · split
    next =>
      unfold writeStaged
      split
      · exact hk.quiet h (refuseWrite_quiet _ _)
      · exact hk.advanced (hk.quiet h (setStagedBank_quiet _))
    next => exact hk.quiet h (refuseWrite_quiet _ _)
    next =>
      simp only [writeSlotConfig]
      split
      · exact hk.quiet h (refuseWrite_quiet _ _)
      · exact hk.congr_rest (s := s) rfl h
    next =>
      simp only [writeLaneConfig]
      split
      next hs =>
        split
        next => exact hk.quiet h (refuseWrite_quiet _ _)
        next hc => exact hk.advanced (resting h (hk.configure hs hc h.1) rfl)
      next => exact hk.quiet h (refuseWrite_quiet _ _)
    next =>
      simp only [writeSourceConfig]
      split
      · exact hk.quiet h (refuseWrite_quiet _ _)
      · exact hk.congr_rest (s := s) rfl h
    next => exact hk.quiet h (refuseWrite_quiet _ _)
    next => exact hk.quiet h (refuseWrite_quiet _ _)
  · exact hk.quiet h (refuseWrite_quiet _ _)

theorem writeTimerMode (v : Word) : AndRest P ∅ false (writeTimerMode v s) := by
  simp only [Machine.writeTimerMode]
  split
  next hs =>
    by_cases hmode : timerModeOfCode (field v 0 2) = s.timer.mode
    · refine hk.congr_rest ?_ h
      simp only [hmode]
      rfl
    · have hstopped := hs.resolve_right fun hsame => hmode hsame.1
      have hmode := resting h (hk.mode (timerModeOfCode (field v 0 2)) hstopped h.1) rfl
      exact hk.like hmode rfl
  next => exact hk.quiet h (refuseWrite_quiet _ _)

theorem writeRegister (a : BitVec 5) (v : Word) : AndRest P ∅ false (writeRegister a v s) := by
  unfold Machine.writeRegister
  split
  · exact hk.writeCommand h v
  · exact hk.congr_rest (s := s) rfl h
  · exact hk.congr_rest (s := s) rfl h
  · exact hk.writeTimerMode h v
  · exact hk.quiet h (writeTimerDiv_quiet v)
  · exact resting h (hk.period v h.1) rfl
  · exact hk.quiet h (writeTableSel_quiet v)
  · exact hk.congr_rest (s := s) rfl h
  · exact hk.writeTableData h v
  · exact hk.quiet h (writeSampleSel_quiet _ _)
  · exact hk.quiet h (writeAlertAck_quiet v)
  · exact hk.quiet h (writeDone_quiet v)
  · exact hk.congr_rest (s := s) rfl h
  · exact hk.congr_rest (s := s) rfl h
  · exact hk.congr_rest (s := s) rfl h
  · exact hk.quiet h (refuseWrite_quiet _ _)

/-! ### Every row -/

/-- Every row keeps the property and a walker at rest. -/
theorem exec (c : Instr) : AndRest P ∅ false (stateOf s (exec c s)) := by
  cases c with
  | mselAssert | mselDeassert | readSlot | readRun | readRunNextRecord | readState | peekAlert | ackAlert
  | postNote | mirrorUnknownCommand | mclkEdge => exact hk.congr_rest (exec_port_quiet rfl s) h
  | timerExpiry | ftrigEdge | heldQueueRelease | frameEnd | readySeen | readyTimeout | shiftEnd | gapEnd
  | pauseExpiry | tick => exact hk.exec_inner rfl h
  | powerOnReset => exact ⟨hk.powerOn s, nofun⟩
  | resetRelease ftrig msel => exact when h fun _ => hk.congr_rest (s := s) rfl h
  | start => exact running h (hk.commandStart h)
  | stop => exact running h (hk.commandStop h)
  | abort => exact running h (hk.commandAbort h.1)
  | trigger => exact running h (hk.accepted (hk.endings_rest.trigger h))
  | commit => exact running h (hk.commandCommit h)
  | cancelCommit => exact running h (hk.writeCommand h 6)
  | clearLane => exact running h (hk.commandClearLane h)
  | clearSlot => exact running h (hk.writeCommand h 8)
  | clearOverrun => exact running h (hk.writeCommand h 9)
  | clearScheduleError => exact running h (hk.writeCommand h 10)
  | clearAlertLost => exact running h (hk.writeCommand h 11)
  | softReset => exact running h (hk.commandSoftReset h)
  | undefinedCommandCode v => exact running h (hk.writeCommand h v)
  | evClaim => exact running h (hk.quiet h (hostRead_quiet claim_quiet _))
  | evDone v => exact running h (hk.quiet h (writeDone_quiet v))
  | evRaise | evThreshWrite => exact running h (hk.congr_rest (s := s) rfl h)
  | hostAlertPeek => exact running h (hk.quiet h (hostRead_quiet (f := Machine.peekAlert) (fun _ => rfl) _))
  | alertAck v => exact running h (hk.quiet h (writeAlertAck_quiet v))
  | mirrorNoteRead => exact running h (hk.quiet h (hostRead_quiet (f := readNote) (fun _ => rfl) _))
  | sampleSnapshotConsume slot => exact running h (hk.quiet h (writeSampleSel_quiet slot true))
  | samplePeek slot => exact running h (hk.quiet h (writeSampleSel_quiet slot false))
  | tableDataRead => exact running h (hk.quiet h (hostRead_quiet tableRead_quiet _))
  | stagedBankWrite v | slotConfigWrite v | laneConfigWrite v | sourceConfigWrite v =>
    exact running h (hk.writeTableData h v)
  | tableSelWrite v => exact running h (hk.quiet h (writeTableSel_quiet v))
  | timerModeWrite v => exact running h (hk.writeTimerMode h v)
  | timerDivWrite v => exact running h (hk.quiet h (writeTimerDiv_quiet v))
  | timerPeriodWrite v => exact running h (resting h (hk.period v h.1) rfl)
  | accessErrWrite => exact running h (hk.congr_rest (s := s) rfl h)
  | registerWrite a v => exact running h (hk.writeRegister h a v)

/-- Every step keeps the property and a walker at rest. -/
theorem step {t : State} (hstep : step s = .next t) : AndRest P ∅ false t := by
  unfold Machine.step at hstep
  cases hq : s.pending with
  | nil =>
    rw [hq] at hstep
    cases hstep
    exact h
  | cons c rest =>
    rw [hq] at hstep
    rw [← stateOf_of_next hstep]
    exact hk.exec (hk.like (t := { s with pending := rest }) h rfl) c

end Keeps

end Sys2Proof.Machine
end

section
/-! Proofs that every step keeps the controller states, the flags and the timer that counts legal (R21, R22, R116,
R117). -/

namespace Sys2Proof.Machine

/-- The modes are legal up to the rest of the walker, and up to a timer at 0 that counts, where `expired` says so:
between the counts of a tick and the timer's action. -/
structure ModesUpTo (expired : Bool) (s : State) : Prop where
  stopped  : s.ctrl.state = .stopped → s.ctrl.walker = .idle ∧ s.ctrl.stopPending = false ∧
    s.ctrl.deferred = false ∧ s.ctrl.abortMark = false ∧ s.ctrl.commitPending = false ∧
    s.timer.counting = false
  waiting  : s.ctrl.state = .waiting → s.ctrl.walker = .idle ∧ s.ctrl.stopPending = false ∧
    s.ctrl.deferred = false ∧ s.ctrl.abortMark = false
  active   : s.ctrl.state = .active → s.ctrl.walker ≠ .idle
  aborting : s.ctrl.abortMark = true → s.ctrl.stopPending = true ∧ s.ctrl.walker = .draining
  counting : s.timer.counting = true →
    (s.timer.mode = .periodic ∨ s.timer.mode = .oneShot) ∧ (expired = false → s.timer.count ≠ 0)

theorem modesLegal_iff (s : State) : ModesLegal s ↔ ModesUpTo false s ∧ AtRest s := by
  constructor
  · intro ⟨hrest, hstopped, hwaiting, hactive, haborting, hcounting⟩
    exact ⟨⟨hstopped, hwaiting, hactive, haborting, fun hc => ⟨(hcounting hc).1, fun _ => (hcounting hc).2⟩⟩, hrest⟩
  · intro ⟨⟨hstopped, hwaiting, hactive, haborting, hcounting⟩, hrest⟩
    exact ⟨hrest, hstopped, hwaiting, hactive, haborting, fun hc => ⟨(hcounting hc).1, (hcounting hc).2 rfl⟩⟩

namespace ModesUpTo

variable {b : Bool} {s t : State} (h : ModesUpTo b s)
include h

theorem congr (hcore : t.core = s.core) : ModesUpTo b t := by
  simp only [State.core, Core.mk.injEq] at hcore
  obtain ⟨hstate, hwalker, -, -, -, hstop, hdeferred, habort, hcommit, -, -, -, -, hcounting, hmode, hcount, -⟩ :=
    hcore
  exact ⟨by rw [hstate, hwalker, hstop, hdeferred, habort, hcommit, hcounting]; exact h.stopped,
    by rw [hstate, hwalker, hstop, hdeferred, habort]; exact h.waiting,
    by rw [hstate, hwalker]; exact h.active, by rw [habort, hstop, hwalker]; exact h.aborting,
    by rw [hcounting, hmode, hcount]; exact h.counting⟩

/-- A walker that moves, but neither out of idle nor into it, nor out of draining, keeps the modes legal. -/
theorem moved (hfixed : t.ctrl.fixed = s.ctrl.fixed) (htimer : t.timer = s.timer)
    (hidle : t.ctrl.walker = .idle ↔ s.ctrl.walker = .idle)
    (hdraining : s.ctrl.walker = .draining → t.ctrl.walker = .draining) : ModesUpTo b t := by
  simp only [Ctrl.fixed, CtrlFixed.mk.injEq] at hfixed
  obtain ⟨hstate, -, hstop, hdeferred, habort, hcommit, -⟩ := hfixed
  exact ⟨by rw [hstate, hidle, hstop, hdeferred, habort, hcommit, htimer]; exact h.stopped,
    by rw [hstate, hidle, hstop, hdeferred, habort]; exact h.waiting,
    by rw [hstate, Ne, hidle]; exact h.active,
    by rw [habort, hstop]; exact fun ha => ⟨(h.aborting ha).1, hdraining (h.aborting ha).2⟩,
    by rw [htimer]; exact h.counting⟩

theorem released (ht : Released s.ctrl t.ctrl) (htimer : t.timer = s.timer) : ModesUpTo b t := by
  refine h.moved ht.fixed htimer ⟨fun hi => ?_, fun hi => ?_⟩ fun hd => ?_
  · by_contra hne
    exact ht.walker_ne_idle hne hi
  · rw [ht.walker_eq (by simp [hi]), hi]
  · rw [ht.walker_eq (by simp [hd]), hd]

/-- A walker that is neither idle nor draining may do as it likes but become idle. -/
theorem walked (hfixed : t.ctrl.fixed = s.ctrl.fixed) (htimer : t.timer = s.timer)
    (hs : s.ctrl.walker ≠ .idle ∧ s.ctrl.walker ≠ .draining) (ht : t.ctrl.walker ≠ .idle) : ModesUpTo b t :=
  h.moved hfixed htimer ⟨fun hi => absurd hi ht, fun hi => absurd hi hs.1⟩ fun hd => absurd hd hs.2

/-- The timer counts outside STOPPED only, so that its settings may change there. -/
theorem not_stopped (hc : s.timer.counting = true) : s.ctrl.state ≠ .stopped := fun hs => by
  obtain ⟨-, -, -, -, -, hhalted⟩ := h.stopped hs
  exact nomatch hc.symm.trans hhalted

end ModesUpTo

theorem modesUpTo_of_stopped {b : Bool} {s : State} (hs : s.ctrl.state = .stopped) (hw : s.ctrl.walker = .idle)
    (hflags : s.ctrl.stopPending = false ∧ s.ctrl.deferred = false ∧ s.ctrl.abortMark = false ∧
      s.ctrl.commitPending = false) (hc : s.timer.counting = false) : ModesUpTo b s := by
  obtain ⟨hstop, hdeferred, habort, hcommit⟩ := hflags
  exact ⟨fun _ => ⟨hw, hstop, hdeferred, habort, hcommit, hc⟩, fun h => (nomatch hs.symm.trans h),
    fun h => (nomatch hs.symm.trans h), fun h => (nomatch habort.symm.trans h), fun h => (nomatch hc.symm.trans h)⟩

/-- A timer that has been loaded counts in a mode of its own, from its period (R116). -/
theorem load_counting {t : Timebase} (h : t.counting = false) (hc : t.load.counting = true) :
    (t.load.mode = .periodic ∨ t.load.mode = .oneShot) ∧ t.load.count ≠ 0 := by
  unfold Timebase.load at *
  cases hm : t.mode <;> simp_all

/-- A timer that has expired counts on in PERIODIC mode only, from its period (R117). -/
theorem afterExpiry_counting {t : Timebase} (hc : t.afterExpiry.counting = true) :
    t.afterExpiry.mode = .periodic ∧ t.afterExpiry.count ≠ 0 := by
  unfold Timebase.afterExpiry at *
  cases hm : t.mode <;> simp_all

theorem writePeriod_counting {t : Timebase} {v : Word} (hc : (t.writePeriod v).counting = true) :
    t.counting = true ∧ (t.writePeriod v).mode = t.mode ∧ (t.writePeriod v).count ≠ 0 := by
  unfold Timebase.writePeriod at *
  split_ifs at * <;> simp_all

/-- A tick brings a count to 0 only where the timer expires (R116, R117). -/
theorem nextTick_counting {t : Timebase} (h : t.count ≠ 0) (hx : t.expiresNext = false) (hc : t.counting = true) :
    t.nextTick.countTick.count ≠ 0 := by
  have h1 : t.count ≠ 1 := by simpa [Timebase.expiresNext, hc] using hx
  have hcount : t.nextTick.countTick.count = t.count - 1 := by
    rw [Timebase.countTick, if_pos (by simpa [Timebase.nextTick, hc] using h)]
    rfl
  rw [hcount]
  bv_omega

theorem countTick_mode (t : Timebase) : t.countTick.mode = t.mode := by
  unfold Timebase.countTick
  split <;> rfl

/-- Each operation keeps the modes legal. -/
theorem modes_keeps : Keeps fun _ => ModesUpTo where
  congr hcore h := h.congr hcore
  idle h hs := (h.stopped hs).1
  calm h _ := h
  settleItem {_ _ s n it o} _ h :=
    h.released (settleItem_released s n it o) (congrArg Still.timer (settleItem_still s n it o))
  within _ h := h
  phase _ _ h := ⟨h.stopped, h.waiting, h.active, h.aborting, h.counting⟩
  settleLane {_ _ s} n h :=
    h.released (settleLane_released s n) (congrArg Still.timer (settleLane_still s n))
  walkEntry {_ _ s} hw h := h.walked (walkEntry_fixed s) (congrArg Still.timer (walkEntry_still s))
    (by simp [hw]) (walkEntry_walker_ne_idle s)
  release {_ _ s k} hd _ h := by
    obtain ⟨hw, -⟩ := Bool.and_eq_true_iff.1 hd
    exact h.walked (issueEntry_fixed s k _) (congrArg Still.timer (issueEntry_still s k _))
      (by simp [of_decide_eq_true hw]) (issueEntry_walker k _ s).1
  abortLane {_ _ s} n h := h.released (abortLane_released s n) (congrArg Still.timer (abortLane_still s n))
  tick {s} h := by
    have hc : (takeTick s).timer.counting = s.timer.counting := countTick_counting s.timer.nextTick
    have hm : (takeTick s).timer.mode = s.timer.mode := countTick_mode s.timer.nextTick
    refine ⟨by rw [hc]; exact h.stopped, h.waiting, h.active, h.aborting, ?_⟩
    rw [hc, hm]
    exact fun hcounting => ⟨(h.counting hcounting).1,
      fun hx => nextTick_counting ((h.counting hcounting).2 rfl) hx hcounting⟩
  act hc h := ⟨fun hs => absurd hs (h.not_stopped hc), h.waiting, h.active, h.aborting, fun hcounting =>
    ⟨.inl (afterExpiry_counting hcounting).1, fun _ => (afterExpiry_counting hcounting).2⟩⟩
  begun _ h := ⟨nofun, nofun, nofun, nofun, h.counting⟩
  stopped _ h := modesUpTo_of_stopped rfl rfl ⟨rfl, rfl, rfl, rfl⟩ rfl
  waiting {_ _ s} _ hp hd h := by
    have hmark : s.ctrl.abortMark = false := by
      by_contra ha
      exact nomatch hp.symm.trans (h.aborting (Bool.not_eq_false _ ▸ ha)).1
    exact ⟨nofun, fun _ => ⟨rfl, hp, hd, hmark⟩, nofun, fun ha => (nomatch hmark.symm.trans ha), h.counting⟩
  deferred {_ _ s d} hs h := by
    refine ⟨fun hst => ?_, fun hst => ?_, h.active, h.aborting, h.counting⟩
    · obtain ⟨hw, hp, -, hrest⟩ := h.stopped hst
      exact ⟨hw, hp, Bool.eq_false_iff.2 fun hd => (nomatch (hs hd).symm.trans hst), hrest⟩
    · obtain ⟨hw, hp, -, hrest⟩ := h.waiting hst
      exact ⟨hw, hp, Bool.eq_false_iff.2 fun hd => (nomatch (hs hd).symm.trans hst), hrest⟩
  start hs h := by
    obtain ⟨hw, hp, hd, ha, -, hc⟩ := h.stopped hs
    exact ⟨nofun, fun _ => ⟨hw, hp, hd, ha⟩, nofun, fun hmark => (nomatch ha.symm.trans hmark),
      fun hcounting => ⟨(load_counting hc hcounting).1, fun _ => (load_counting hc hcounting).2⟩⟩
  stopping hs h := ⟨fun hst => (nomatch hs.symm.trans hst), fun hst => (nomatch hs.symm.trans hst), h.active,
    fun ha => ⟨rfl, (h.aborting ha).2⟩, h.counting⟩
  aborting hs h := ⟨fun hst => (nomatch hs.symm.trans hst), fun hst => (nomatch hs.symm.trans hst), nofun,
    fun _ => ⟨rfl, rfl⟩, h.counting⟩
  swap hs h := by
    obtain ⟨hw, hp, hd, ha, -, hc⟩ := h.stopped hs
    exact modesUpTo_of_stopped hs hw ⟨hp, hd, ha, rfl⟩ hc
  committed {s c} hs h := by
    refine ⟨fun hst => ?_, h.waiting, h.active, h.aborting, h.counting⟩
    obtain ⟨hw, hp, hd, ha, -, hc⟩ := h.stopped hst
    exact ⟨hw, hp, hd, ha, Bool.eq_false_iff.2 fun h => hs h hst, hc⟩
  clearHalt _ h := ⟨h.stopped, h.waiting, h.active, h.aborting, h.counting⟩
  configure _ _ h := ⟨h.stopped, h.waiting, h.active, h.aborting, h.counting⟩
  mode _ hs h := by
    obtain ⟨hw, hp, hd, ha, hcommit, hc⟩ := h.stopped hs
    exact modesUpTo_of_stopped hs hw ⟨hp, hd, ha, hcommit⟩ hc
  period {s} v h := by
    refine ⟨fun hst => ?_, h.waiting, h.active, h.aborting, fun hcounting => ?_⟩
    · obtain ⟨hw, hp, hd, ha, hcommit, hc⟩ := h.stopped hst
      refine ⟨hw, hp, hd, ha, hcommit, Bool.eq_false_iff.2 fun hcounting => ?_⟩
      exact nomatch hc.symm.trans (writePeriod_counting hcounting).1
    · obtain ⟨hc, hmode, hcount⟩ := writePeriod_counting hcounting
      rw [hmode]
      exact ⟨(h.counting hc).1, fun _ => hcount⟩
  softReset _ := modesUpTo_of_stopped rfl rfl ⟨rfl, rfl, rfl, rfl⟩ rfl
  powerOn _ := modesUpTo_of_stopped rfl rfl ⟨rfl, rfl, rfl, rfl⟩ rfl

/-- Settles O53: every operation of a row keeps the modes legal, and its walk runs to its hold or its end. -/
theorem stepKeepsModesLegal : Obligations.StepKeepsModesLegal := by
  intro s t hs hstep
  rw [modesLegal_iff] at *
  exact modes_keeps.step hs hstep

end Sys2Proof.Machine
end

section
/-! Proofs that every step keeps the lanes and the held entry legal (R35, R49, R51, R54, R67). -/

namespace Sys2Proof.Machine

/-! ### What the walker does with an entry, case by case -/

/-- The entry at the walker's position. -/
abbrev State.entry (s : State) : Entry := (activeBank s)[s.ctrl.position]

/-- The lane of that entry. -/
abbrev State.entryLane (s : State) : Lane := s.lanes[s.entry.lane]

/-- What the walker in ISSUING can make of the entry at its position (R30 to R35). -/
inductive EntryTaken (s : State) : State → Prop where
  | passed : EntryTaken s (passOver s)
  | skipped : EntryTaken s (passOver (countSkipped s))
  | rejected (k : ItemKind) (why : RejectReason) : EntryTaken s (rejectEntry k s.entry why s)
  | issued (k : ItemKind) (hchecks : rejectReason s.entryLane.cfg k s.entry = none)
      (hroom : s.entryLane.queue.length < 4) : EntryTaken s (issueEntry k s.entry s)
  | held (k : ItemKind) (hkind : s.entry.itemKind = some k) (hdue : entryDue s.entry s.ctrl.frame = true)
      (hwindow : s.ctrl.inWindow s.ctrl.position = false)
      (hchecks : rejectReason s.entryLane.cfg k s.entry = none) :
      EntryTaken s { s with ctrl := { s.ctrl with walker := .heldQueue } }
  | ended : EntryTaken s { s with ctrl := { s.ctrl with walker := .draining } }

theorem walkEntry_entryTaken (s : State) : EntryTaken s (walkEntry s) := by
  simp only [walkEntry]
  split
  next k hkind =>
    split
    next hdue =>
      split
      next => exact .skipped
      next hwindow =>
        rcases takeDueEntry_cases k s.entry s with ⟨why, -, e⟩ | ⟨hchecks, hroom, e⟩ | ⟨hchecks, -, e⟩ <;> rw [e]
        · exact .rejected k why
        · exact .issued k hchecks hroom
        · exact .held k hkind hdue (Bool.eq_false_iff.2 hwindow) hchecks
    next => exact .passed
  next =>
    split
    · exact .ended
    · exact .passed

/-! ### One lane -/

/-- A lane about to settle: legal but that items may wait where none is in progress. -/
structure LaneOpen (l : Lane) : Prop where
  divider  : 2 ≤ l.cfg.divider.toNat ∧ l.cfg.divider.toNat ≤ 1024 ∧ l.cfg.divider.toNat % 2 = 0
  timeout  : 1 ≤ l.cfg.readyTimeout.toNat
  disabled : l.phase = .disabled ↔ l.cfg.enable = false
  room     : l.queue.length ≤ 4
  off      : l.phase = .disabled → l.queue = []

theorem LaneLegal.open {l : Lane} (h : LaneLegal l) : LaneOpen l :=
  ⟨h.divider, h.timeout, h.disabled, h.room, fun hd => h.idle (by rw [hd]; rfl)⟩

theorem beginItem_item (c : LaneConfig) (it : Item) : (beginItem c it).item = some it := by
  unfold beginItem
  split
  · rfl
  all_goals split <;> rfl

theorem beginItem_ne_disabled (c : LaneConfig) (it : Item) : beginItem c it ≠ .disabled := fun h => by
  have := beginItem_item c it
  rw [h] at this
  exact nomatch this

theorem settled_cfg (l : Lane) : l.settled.cfg = l.cfg := by
  unfold Lane.settled
  split
  · rfl
  · exact takeHead_cfg l

theorem takeHead_of_not_idle {l : Lane} (h : l.phase ≠ .idle) : l.takeHead = l := by
  unfold Lane.takeHead
  split
  next h' _ => exact absurd h' h
  next => rfl

theorem settled_legal {l : Lane} (h : LaneOpen l) : LaneLegal l.settled := by
  unfold Lane.settled
  cases hp : l.phase with
  | halted =>
    have hon : l.cfg.enable ≠ false := fun hoff => nomatch hp.symm.trans (h.disabled.2 hoff)
    exact ⟨h.divider, h.timeout, by simp [hon], Nat.zero_le _, fun _ => rfl⟩
  | idle =>
    have hon : l.cfg.enable ≠ false := fun hoff => nomatch hp.symm.trans (h.disabled.2 hoff)
    simp only [Lane.takeHead, hp]
    cases hq : l.queue with
    | nil => exact ⟨h.divider, h.timeout, by simp [hp, hon], by simp [hq], fun _ => hq⟩
    | cons it rest =>
      have hroom := h.room
      rw [hq, List.length_cons] at hroom
      exact ⟨h.divider, h.timeout, by simp [beginItem_ne_disabled, hon], Nat.le_of_succ_le hroom,
        fun hi => (nomatch (beginItem_item l.cfg it).symm.trans hi)⟩
  | disabled =>
    rw [takeHead_of_not_idle (by simp [hp])]
    exact ⟨h.divider, h.timeout, h.disabled, h.room, fun _ => h.off hp⟩
  | readyWait | shifting | gap | pausing =>
    rw [takeHead_of_not_idle (by simp [hp])]
    exact ⟨h.divider, h.timeout, h.disabled, h.room, by simp [hp, LanePhase.item]⟩

section
variable {l : Lane} (h : LaneLegal l)
include h

theorem LaneLegal.enabled_of_item {it : Item} (hit : l.phase.item = some it) : l.cfg.enable ≠ false := fun hoff => by
  rw [h.disabled.2 hoff] at hit
  exact nomatch (show none = some it from hit)

/-- A lane whose item has ended is about to settle (R66). -/
theorem ended_open {it : Item} (hit : l.phase.item = some it) (o : ItemOutcome) : LaneOpen (l.ended o) := by
  have hphase : phaseAfter l.cfg o ≠ .disabled := by
    unfold phaseAfter
    cases o with
    | fault => by_cases hh : l.cfg.haltOnFault = true <;> simp [hh]
    | _ => exact nofun
  exact ⟨h.divider, h.timeout, by simp [Lane.ended, hphase, h.enabled_of_item hit], h.room,
    fun hd => absurd hd hphase⟩

/-- An enabled lane with a place free takes an item and is about to settle (R34). -/
theorem queued_open (hon : l.cfg.enable = true) (hroom : l.queue.length < 4) (it : Item) : LaneOpen (l.queued it) := by
  have hphase : l.phase ≠ .disabled := fun hd => nomatch hon.symm.trans (h.disabled.1 hd)
  exact ⟨h.divider, h.timeout, h.disabled, by simpa [Lane.queued] using hroom, fun hd => absurd hd hphase⟩

theorem withPhase_legal {it : Item} {p : LanePhase} (hit : l.phase.item = some it) (hp : p.item = some it) :
    LaneLegal { l with phase := p } := by
  have hphase : p ≠ .disabled := fun hd => by
    rw [hd] at hp
    exact nomatch hp
  exact ⟨h.divider, h.timeout, by simp [hphase, h.enabled_of_item hit], h.room,
    fun hi => (nomatch hp.symm.trans hi)⟩

theorem aborted_legal : LaneLegal l.aborted := by
  unfold Lane.aborted
  split
  next => exact h
  next => exact h
  next hd _ =>
    have hon : l.cfg.enable ≠ false := fun hoff => hd (h.disabled.2 hoff)
    exact ⟨h.divider, h.timeout, by simp [hon], Nat.zero_le _, fun _ => rfl⟩

theorem countTick_legal : LaneLegal l.countTick := by
  have hitem : l.phase.countTick.item = l.phase.item := by cases l.phase <;> rfl
  have hdisabled : l.phase.countTick = .disabled ↔ l.phase = .disabled := by
    cases l.phase <;> simp [LanePhase.countTick]
  exact ⟨h.divider, h.timeout, hdisabled.trans h.disabled, h.room, fun hi => h.idle (hitem ▸ hi)⟩

theorem clearHalt_legal : LaneLegal l.clearHalt := by
  unfold Lane.clearHalt
  split
  next hp =>
    have hon : l.cfg.enable ≠ false := fun hoff => nomatch hp.symm.trans (h.disabled.2 hoff)
    exact ⟨h.divider, h.timeout, by simp [hon], h.room, fun _ => h.idle (by rw [hp]; rfl)⟩
  next => exact h

theorem laneSoftReset_legal : LaneLegal l.softReset := by
  unfold Lane.softReset
  refine ⟨h.divider, h.timeout, ?_, Nat.zero_le _, fun _ => rfl⟩
  by_cases hp : l.phase = .disabled <;> simp [hp, ← h.disabled]

end

/-- A word that a lane configuration takes leaves it in its ranges (R49, R51). -/
theorem setWord_ranges {c d : LaneConfig} {k : Fin 4} {w : Word} (h : c.setWord k w = some d)
    (hdivider : 2 ≤ c.divider.toNat ∧ c.divider.toNat ≤ 1024 ∧ c.divider.toNat % 2 = 0)
    (htimeout : 1 ≤ c.readyTimeout.toNat) :
    (2 ≤ d.divider.toNat ∧ d.divider.toNat ≤ 1024 ∧ d.divider.toNat % 2 = 0) ∧ 1 ≤ d.readyTimeout.toNat := by
  unfold LaneConfig.setWord at h
  split at h
  · obtain ⟨r, -, rfl⟩ := Option.map_eq_some_iff.1 h
    exact ⟨hdivider, htimeout⟩
  · split at h
    next => exact nomatch h
    next hne =>
      cases h
      exact ⟨hdivider, by bv_omega⟩
  · cases h
    exact ⟨hdivider, htimeout⟩
  · split at h
    next hvalid =>
      cases h
      simp only [dividerValid, Bool.and_eq_true, decide_eq_true_eq] at hvalid
      exact ⟨⟨hvalid.1.1, hvalid.1.2, hvalid.2⟩, htimeout⟩
    next => exact nomatch h

theorem configure_legal {l : Lane} (h : LaneLegal l) {k : Fin 4} {w : Word} {c : LaneConfig}
    (hc : l.cfg.setWord k w = some c) : LaneLegal (l.configure c) := by
  obtain ⟨hdivider, htimeout⟩ := setWord_ranges hc h.divider h.timeout
  unfold Lane.configure
  split
  next hsame => exact ⟨hdivider, htimeout, by simpa [hsame] using h.disabled, h.room, h.idle⟩
  next => exact ⟨hdivider, htimeout, by cases c.enable <;> simp, Nat.zero_le _, fun _ => rfl⟩

/-! ### Four lanes and the held entry -/

/-- What holds of every lane holds of every lane still where one has been replaced by a lane of which it holds. -/
theorem forall_set {Q : Lane → Prop} {v : Vector Lane 4} {n : Fin 4} {l : Lane} (h : ∀ m : Fin 4, Q v[m])
    (hl : Q l) (m : Fin 4) : Q (v.set n.val l n.isLt)[m] := by
  simp only [Fin.getElem_fin, Vector.getElem_set]
  split
  · exact hl
  · exact h m

/-- A lane replaced by one with the same configuration. -/
theorem set_cfg {v : Vector Lane 4} {n : Fin 4} {l : Lane} (h : l.cfg = (v[n]).cfg) (m : Fin 4) :
    ((v.set n.val l n.isLt)[m]).cfg = (v[m]).cfg := by
  simp only [Fin.getElem_fin, Vector.getElem_set]
  split
  next hm =>
    have hnm : n = m := Fin.ext hm
    subst hnm
    exact h
  next => rfl

theorem forall_mapLanes {Q : Lane → Prop} {v : Vector Lane 4} {f : Lane → Lane} (h : ∀ m : Fin 4, Q v[m])
    (hf : ∀ l, Q l → Q (f l)) (m : Fin 4) : Q (mapLanes f v)[m] := by
  simpa using hf _ (h m)

theorem activeBank_eq {s t : State} (hstill : t.still = s.still) (hfixed : t.ctrl.fixed = s.ctrl.fixed) :
    activeBank t = activeBank s := by
  have hA : t.bankA = s.bankA := congrArg Still.bankA hstill
  have hB : t.bankB = s.bankB := congrArg Still.bankB hstill
  have hactive : t.ctrl.active = s.ctrl.active := congrArg CtrlFixed.active hfixed
  rw [activeBank, activeBank, hA, hB, hactive]

theorem heldLegal_of_ne {s : State} (h : s.ctrl.walker ≠ .heldQueue) : HeldLegal s := fun hw => absurd hw h

/-- What the held entry's soundness depends on (R35). -/
theorem HeldLegal.congr {s t : State} (h : HeldLegal s) (hctrl : (t.ctrl.state, t.ctrl.walker, t.ctrl.position,
      t.ctrl.frame, t.ctrl.window) = (s.ctrl.state, s.ctrl.walker, s.ctrl.position, s.ctrl.frame, s.ctrl.window))
    (hbank : activeBank t = activeBank s) (hcfg : ∀ n : Fin 4, (t.lanes[n]).cfg = (s.lanes[n]).cfg) :
    HeldLegal t := by
  simp only [Prod.mk.injEq] at hctrl
  obtain ⟨hstate, hwalker, hposition, hframe, hwindow⟩ := hctrl
  intro hw
  rw [hwalker] at hw
  obtain ⟨hactive, k, hkind, hdue, hout, hchecks⟩ := h hw
  have hentry : t.entry = s.entry := by simp only [State.entry, hbank, hposition]
  have hlane : t.entryLane.cfg = s.entryLane.cfg := by
    rw [State.entryLane, hcfg]
    simp only [hentry]
  refine ⟨hstate.trans hactive, k, (congrArg Entry.itemKind hentry).trans hkind, ?_, ?_, ?_⟩
  · rw [hframe]
    exact (congrArg (entryDue · s.ctrl.frame) hentry).trans hdue
  · rw [hposition, Ctrl.inWindow, hwindow]
    exact hout
  · show rejectReason t.entryLane.cfg k t.entry = none
    rw [hlane, hentry]
    exact hchecks

/-- A completion, and an item that settles, leave a held entry as it is. -/
theorem HeldLegal.released {s t : State} (h : HeldLegal s) (hctrl : Released s.ctrl t.ctrl)
    (hstill : t.still = s.still) (hcfg : ∀ n : Fin 4, (t.lanes[n]).cfg = (s.lanes[n]).cfg) : HeldLegal t := by
  intro hw
  have hcounted := hctrl.of_heldQueue hw
  exact h.congr (by rw [hcounted]) (activeBank_eq hstill hctrl.fixed) hcfg hw

/-- The lanes and the held entry are legal, with the modes up to a timer at 0. -/
structure LanesUpTo (expired : Bool) (s : State) : Prop where
  modes : ModesUpTo expired s
  lane  : ∀ n : Fin 4, LaneLegal s.lanes[n]
  held  : HeldLegal s

theorem lanesLegal_iff (s : State) : LanesLegal s ↔ LanesUpTo false s ∧ AtRest s := by
  constructor
  · intro ⟨hmodes, hlane, hheld⟩
    obtain ⟨hmodes, hrest⟩ := (modesLegal_iff s).1 hmodes
    exact ⟨⟨hmodes, hlane, hheld⟩, hrest⟩
  · intro ⟨⟨hmodes, hlane, hheld⟩, hrest⟩
    exact ⟨(modesLegal_iff s).2 ⟨hmodes, hrest⟩, hlane, hheld⟩

namespace LanesUpTo

variable {b : Bool} {s t : State} (h : LanesUpTo b s)
include h

theorem not_held_of_ne_active (hs : s.ctrl.state ≠ .active) : s.ctrl.walker ≠ .heldQueue :=
  fun hw => hs (h.held hw).1

/-- An operation on one lane that releases the walker at most keeps lanes and held entry legal. -/
theorem released {n : Fin 4} {l : Lane} (hmodes : ModesUpTo b t) (hctrl : Released s.ctrl t.ctrl)
    (hstill : t.still = s.still) (hlanes : t.lanes = s.lanes.set n.val l n.isLt) (hl : LaneLegal l)
    (hcfg : l.cfg = (s.lanes[n]).cfg) : LanesUpTo b t := by
  refine ⟨hmodes, ?_, h.held.released hctrl hstill ?_⟩ <;> rw [hlanes]
  · exact forall_set h.lane hl
  · exact set_cfg hcfg

/-- An entry whose checks have passed is issued to a lane with a place free. -/
theorem issued {k : ItemKind} (hchecks : rejectReason s.entryLane.cfg k s.entry = none)
    (hroom : s.entryLane.queue.length < 4) (hmodes : ModesUpTo b (issueEntry k s.entry s)) :
    LanesUpTo b (issueEntry k s.entry s) := by
  have hon : s.entryLane.cfg.enable = true := by
    by_contra hoff
    rw [rejectReason, if_pos (by simpa using hoff)] at hchecks
    exact nomatch hchecks
  refine ⟨hmodes, ?_, heldLegal_of_ne (issueEntry_walker k _ s).2⟩
  rw [issueEntry_eq, enqueue_lanes]
  exact forall_set h.lane (settled_legal (queued_open (h.lane _) hon hroom _))

theorem withCtrl {c : Ctrl} (hmodes : ModesUpTo b { s with ctrl := c }) (hw : c.walker ≠ .heldQueue) :
    LanesUpTo b { s with ctrl := c } := ⟨hmodes, h.lane, heldLegal_of_ne hw⟩

end LanesUpTo

theorem powerOn_lanes (n : Fin 4) : LaneLegal State.reset.lanes[n] := by
  have hlane : State.reset.lanes[n] = Lane.powerOn := by simp [State.reset]
  rw [hlane]
  exact ⟨by decide, by decide, by decide, by decide, fun _ => rfl⟩

/-- Each operation keeps the lanes and the held entry legal. -/
theorem lanes_keeps : Keeps fun _ => LanesUpTo where
  congr {_ _ s t} hcore h := by
    have hmodes := modes_keeps.congr (L := ∅) hcore h.modes
    simp only [State.core, Core.mk.injEq] at hcore
    obtain ⟨hstate, hwalker, hposition, hwindow, hframe, -, -, -, -, -, -, -, hlanes, -, -, -, hbank⟩ := hcore
    refine ⟨hmodes, by rw [hlanes]; exact h.lane, h.held.congr ?_ hbank (by simp [hlanes])⟩
    rw [hstate, hwalker, hposition, hframe, hwindow]
  idle h hs := (h.modes.stopped hs).1
  calm h _ := h
  settleItem {L _ s n it o} hit h :=
    h.released (modes_keeps.settleItem (L := L) hit h.modes) (settleItem_released s n it o)
      (settleItem_still s n it o) (settleItem_lanes s n it o) (settled_legal (ended_open (h.lane n) hit o))
      (settled_cfg _)
  within _ h := h
  phase {L _ s n it p} hit hp h :=
    h.released (modes_keeps.phase (L := L) hit hp h.modes) .refl rfl (setPhase_lanes s n p)
      (withPhase_legal (h.lane n) hit hp) rfl
  settleLane {L _ s} n h :=
    h.released (modes_keeps.settleLane (L := L) n h.modes) (settleLane_released s n) (settleLane_still s n)
      (settleLane_lanes s n) (settled_legal (h.lane n).open) (settled_cfg _)
  walkEntry {L b s} hw h := by
    have hmodes := modes_keeps.walkEntry (L := L) hw h.modes
    have hadvance (c : Ctrl) : c.advance.walker ≠ .heldQueue := by
      rcases advance_moves c with ⟨e, -⟩ | e <;> simp [e]
    have hstate : s.ctrl.state = .active := by
      cases hs : s.ctrl.state with
      | stopped => exact nomatch hw.symm.trans (h.modes.stopped hs).1
      | waiting => exact nomatch hw.symm.trans (h.modes.waiting hs).1
      | active => rfl
    have htaken := walkEntry_entryTaken s
    revert hmodes htaken
    generalize walkEntry s = t
    intro hmodes htaken
    cases htaken with
    | passed => exact ⟨hmodes, h.lane, heldLegal_of_ne (hadvance _)⟩
    | skipped => exact ⟨hmodes, h.lane, heldLegal_of_ne (hadvance _)⟩
    | rejected k why => exact ⟨hmodes, h.lane, heldLegal_of_ne (hadvance _)⟩
    | issued k hchecks hroom => exact h.issued hchecks hroom hmodes
    | held k hkind hdue hwindow hchecks =>
      exact ⟨hmodes, h.lane, fun _ => ⟨hstate, k, hkind, hdue, hwindow, hchecks⟩⟩
    | ended => exact h.withCtrl hmodes nofun
  release {L _ s k} hd hk h := by
    obtain ⟨hw, hroom⟩ := Bool.and_eq_true_iff.1 hd
    obtain ⟨-, k', hkind, -, -, hchecks⟩ := h.held (of_decide_eq_true hw)
    have hkk : k' = k := Option.some.inj (hkind.symm.trans hk)
    exact h.issued (hkk ▸ hchecks) (of_decide_eq_true hroom) (modes_keeps.release (L := L) hd hk h.modes)
  abortLane {L _ s} n h :=
    h.released (modes_keeps.abortLane (L := L) n h.modes) (abortLane_released s n) (abortLane_still s n)
      (abortLane_lanes s n) (aborted_legal (h.lane n)) (by unfold Lane.aborted; split <;> rfl)
  tick {s} h := ⟨modes_keeps.tick h.modes, forall_mapLanes h.lane fun _ => countTick_legal,
    h.held.congr rfl rfl fun n => by simp [Lane.countTick]⟩
  act {L _ _} hc h := ⟨modes_keeps.act (L := L) hc h.modes, h.lane, h.held⟩
  begun {L _ _} hs h := ⟨modes_keeps.begun (L := L) hs h.modes, h.lane, nofun⟩
  stopped {L _ _} hs h := ⟨modes_keeps.stopped (L := L) hs h.modes, h.lane, nofun⟩
  waiting {L _ _} hl hp hd h := h.withCtrl (modes_keeps.waiting (L := L) hl hp hd h.modes) nofun
  deferred {L _ _ _} hs h := ⟨modes_keeps.deferred (L := L) hs h.modes, h.lane, h.held⟩
  start {s} hs h := ⟨modes_keeps.start hs h.modes, h.lane,
    heldLegal_of_ne (h.not_held_of_ne_active (by simp [hs]))⟩
  stopping hs h := ⟨modes_keeps.stopping hs h.modes, h.lane, h.held⟩
  aborting hs h := ⟨modes_keeps.aborting hs h.modes, h.lane, nofun⟩
  swap hs h := ⟨modes_keeps.swap hs h.modes, h.lane,
    heldLegal_of_ne (h.not_held_of_ne_active (by simp [hs]))⟩
  committed hs h := ⟨modes_keeps.committed hs h.modes, h.lane, h.held⟩
  clearHalt {s} n h := h.released (modes_keeps.clearHalt n h.modes) .refl rfl (setLane_lanes s n _)
    (clearHalt_legal (h.lane n)) rfl
  configure hs hc h := ⟨modes_keeps.configure hs hc h.modes, forall_set h.lane (configure_legal (h.lane _) hc),
    heldLegal_of_ne (h.not_held_of_ne_active (by simp [hs]))⟩
  mode m hs h := ⟨modes_keeps.mode m hs h.modes, h.lane, h.held⟩
  period v h := ⟨modes_keeps.period v h.modes, h.lane, h.held⟩
  softReset h := ⟨modes_keeps.softReset h.modes, forall_mapLanes h.lane fun _ => laneSoftReset_legal, nofun⟩
  powerOn s := ⟨modes_keeps.powerOn s, powerOn_lanes, nofun⟩

/-- Settles O55: every operation of a row keeps each lane legal, and the walker holds a checked entry only. -/
theorem stepKeepsLanesLegal : Obligations.StepKeepsLanesLegal := by
  intro s t hs hstep
  rw [lanesLegal_iff] at *
  exact lanes_keeps.step hs hstep

end Sys2Proof.Machine
end

section
/-! Proofs that every step keeps the identities of the frame report, the items' frame numbers and the waits within
their ticks (R28, R39, R57, R63). -/

namespace Sys2Proof.Machine

/-! ### The items of a lane -/

/-- A lane and what it skips as it settles hold the items that it held. -/
theorem settled_items (l : Lane) : l.settled.items ++ l.skipped = l.items := by
  unfold Lane.settled Lane.skipped
  cases hp : l.phase with
  | halted => simp [Lane.items, hp, LanePhase.item]
  | idle =>
    cases hq : l.queue with
    | nil => simp [Lane.takeHead, Lane.items, hp, hq]
    | cons it rest =>
      have hbegun := beginItem_item l.cfg it
      have hidle : LanePhase.idle.item = none := rfl
      simp [Lane.takeHead, Lane.items, hp, hq, hbegun, hidle]
  | disabled | readyWait | shifting | gap | pausing => simp [takeHead_of_not_idle, hp]

theorem ended_items {l : Lane} {it : Item} (hit : l.phase.item = some it) (o : ItemOutcome) :
    l.items = it :: (l.ended o).items := by
  have hnone : (phaseAfter l.cfg o).item = none := by
    cases o with
    | fault => by_cases hh : l.cfg.haltOnFault = true <;> simp [phaseAfter, hh, LanePhase.item]
    | _ => rfl
  simp [Lane.items, Lane.ended, hit, hnone]

theorem queued_items (l : Lane) (it : Item) : (l.queued it).items = l.items ++ [it] := by
  simp [Lane.items, Lane.queued]

theorem aborted_items (l : Lane) : l.aborted.items ++ l.abortedItems = l.items := by
  unfold Lane.aborted Lane.abortedItems
  cases l.phase with
  | disabled | halted => simp
  | _ => simp [Lane.items, LanePhase.item]

theorem countTick_items (l : Lane) : l.countTick.items = l.items := by
  have hitem : l.phase.countTick.item = l.phase.item := by cases l.phase <;> rfl
  simp [Lane.items, Lane.countTick, hitem]

theorem clearHalt_items (l : Lane) : l.clearHalt.items = l.items := by
  unfold Lane.clearHalt
  split
  next hp => simp [Lane.items, hp, LanePhase.item]
  next => rfl

theorem configure_items {l : Lane} (h : l.items = []) (c : LaneConfig) : (l.configure c).items = [] := by
  unfold Lane.configure
  split
  next => exact h
  next => cases c.enable <;> rfl

theorem softReset_items (l : Lane) : l.softReset.items = [] := by
  unfold Lane.softReset
  by_cases hp : l.phase = .disabled <;> simp [Lane.items, hp, LanePhase.item]

theorem phase_item_of_items {l : Lane} (h : l.items = []) : l.phase.item = none := by
  simp only [Lane.items, List.append_eq_nil_iff] at h
  simpa using h.1

theorem within_of_item {c : LaneConfig} {p : LanePhase} (h : p.item = none) : Within c p := by
  cases p with
  | readyWait | pausing => exact nomatch h
  | _ => trivial

/-! ### The items of the lanes -/

theorem itemsHeld_eq (s : State) : itemsHeld s = ∑ n : Fin 4, (s.lanes[n]).items.length := by
  have hlist : s.lanes.toList = List.ofFn fun n : Fin 4 => s.lanes[n] := by
    refine List.ext_getElem (by simp) fun i _ _ => ?_
    simp only [Vector.getElem_toList, List.getElem_ofFn, Fin.getElem_fin]
  rw [itemsHeld, hlist, List.map_ofFn, List.sum_ofFn]
  rfl

theorem itemsHeld_eq_zero (s : State) : itemsHeld s = 0 ↔ ∀ n : Fin 4, (s.lanes[n]).items = [] := by
  simp [itemsHeld_eq]

/-- With one lane replaced, the lanes hold as many items more as that lane does. -/
theorem itemsHeld_set {s t : State} {n : Fin 4} {l : Lane} (h : t.lanes = s.lanes.set n.val l n.isLt) :
    itemsHeld t + (s.lanes[n]).items.length = itemsHeld s + l.items.length := by
  have hself : t.lanes[n] = l := by simp [h]
  have hrest : ∑ m ∈ Finset.univ.erase n, (t.lanes[m]).items.length =
      ∑ m ∈ Finset.univ.erase n, (s.lanes[m]).items.length := by
    refine Finset.sum_congr rfl fun m hm => ?_
    have hne : n ≠ m := fun e => (Finset.mem_erase.1 hm).1 e.symm
    have := setLane_lanes_ne s n m l hne
    rw [setLane_lanes] at this
    rw [h, this]
  rw [itemsHeld_eq, itemsHeld_eq, ← Finset.add_sum_erase _ _ (Finset.mem_univ n),
    ← Finset.add_sum_erase (s := Finset.univ) (fun m : Fin 4 => (s.lanes[m]).items.length) (Finset.mem_univ n),
    hrest, hself]
  omega

theorem itemsHeld_congr {s t : State} (h : ∀ n : Fin 4, (t.lanes[n]).items = (s.lanes[n]).items) :
    itemsHeld t = itemsHeld s := by
  simp only [itemsHeld_eq, h]

/-- An operation on a lane that moves items into the report, and none anywhere else. -/
structure Accounted (s t : State) : Prop where
  released : Released s.ctrl t.ctrl
  still    : t.still = s.still
  balance  : t.ctrl.current.accounted + itemsHeld t = s.ctrl.current.accounted + itemsHeld s
  fewer    : itemsHeld t ≤ itemsHeld s
  items    : ∀ (n : Fin 4) (it : Item), it ∈ (t.lanes[n]).items → it ∈ (s.lanes[n]).items

/-- The completions `done` of a lane, which then holds the rest of its items. -/
theorem accounted_of_set {s t : State} {n : Fin 4} {l : Lane} {done : List Item}
    (hreleased : Released s.ctrl t.ctrl) (hstill : t.still = s.still)
    (hlanes : t.lanes = s.lanes.set n.val l n.isLt) (hitems : (s.lanes[n]).items.Perm (l.items ++ done))
    (hcount : t.ctrl.current.accounted = s.ctrl.current.accounted + done.length) : Accounted s t := by
  have hset := itemsHeld_set hlanes
  have hlength := hitems.length_eq
  rw [List.length_append] at hlength
  refine ⟨hreleased, hstill, by omega, by omega, fun m it hit => ?_⟩
  rw [hlanes] at hit
  by_cases hm : n = m
  · subst hm
    exact hitems.mem_iff.2 (List.mem_append_left _ (by simpa using hit))
  · have := setLane_lanes_ne s n m l hm
    rw [setLane_lanes] at this
    rwa [this] at hit

section
variable (s : State) (n : Fin 4)

theorem settleLane_accounted : Accounted s (settleLane n s) := by
  refine accounted_of_set (settleLane_released s n) (settleLane_still s n) (settleLane_lanes s n)
    (List.Perm.of_eq (settled_items _).symm) ?_
  rw [settleLane_eq, completeAll_accounted]
  rfl

theorem abortLane_accounted : Accounted s (abortLane s n) := by
  refine accounted_of_set (abortLane_released s n) (abortLane_still s n) (abortLane_lanes s n)
    (List.Perm.of_eq (aborted_items _).symm) ?_
  rw [abortLane_eq, completeAll_accounted]
  rfl

theorem settleItem_accounted {it : Item} (hit : (s.lanes[n]).phase.item = some it) (o : ItemOutcome) :
    Accounted s (settleItem n it o s) := by
  refine accounted_of_set (done := ((s.lanes[n]).ended o).skipped ++ [it]) (settleItem_released s n it o)
    (settleItem_still s n it o) (settleItem_lanes s n it o) ?_ ?_
  · rw [← List.append_assoc, settled_items, ended_items hit o]
    exact List.perm_append_singleton .. |>.symm
  · have hlanes : (complete n it o s).lanes = s.lanes := complete_lanes s n it o
    simp only [settleItem]
    rw [settleLane_eq, completeAll_accounted, setLane_ctrl, setLane_ctrl, complete_current,
      countOutcome_accounted, setLane_lanes_self]
    simp only [hlanes, List.length_append, List.length_singleton, Lane.ended]
    omega

end

end Sys2Proof.Machine
end

section
/-! Proofs that each operation of a row keeps the frame report's identities, and so does every step (R28, R39). -/

namespace Sys2Proof.Machine

/-- The frame is legal up to a timer at 0, and up to the waits of the lanes in `late`; a walker that issues has
counted only entries before its position. -/
structure FrameUpTo (late : Finset (Fin 4)) (expired : Bool) (s : State) : Prop where
  modes   : ModesUpTo expired s
  number  : s.ctrl.current.frame = s.ctrl.frame
  outside : s.ctrl.state ≠ .active → itemsHeld s = 0
  items   : ∀ n : Fin 4, ∀ it ∈ (s.lanes[n]).items, it.frame = s.ctrl.frame
  due     : s.ctrl.current.due =
    s.ctrl.current.issued + s.ctrl.current.gateSkipped + s.ctrl.current.rejected
  issued  : s.ctrl.current.issued = s.ctrl.current.accounted + itemsHeld s
  reached : s.ctrl.current.due ≤ 64 ∧
    (s.ctrl.walker = .issuing → s.ctrl.current.due ≤ s.ctrl.position.val) ∧
    (s.ctrl.walker = .heldQueue → s.ctrl.current.due ≤ s.ctrl.position.val) ∧
    (s.ctrl.walker = .heldGate → s.ctrl.current.due ≤ s.ctrl.position.val + 1)
  within  : ∀ n : Fin 4, n ∉ late → Within (s.lanes[n]).cfg (s.lanes[n]).phase

theorem frameLegal_iff (s : State) : FrameLegal s ↔ FrameUpTo ∅ false s ∧ AtRest s := by
  constructor
  · intro ⟨hmodes, hnumber, houtside, hitems, hdue, hissued, hreached, hwaits, hpauses⟩
    obtain ⟨hmodes, hrest⟩ := (modesLegal_iff s).1 hmodes
    obtain ⟨hcount, hqueue, hgate⟩ := hreached
    refine ⟨⟨hmodes, hnumber, houtside, hitems, hdue, ?_, ⟨hcount, fun h => absurd h hrest, hqueue, hgate⟩,
      fun n _ => ?_⟩, hrest⟩
    · rw [hissued, FrameReport.accounted]
    · cases hp : (s.lanes[n]).phase with
      | readyWait it k => exact hwaits n it k hp
      | pausing it k => exact hpauses n it k hp
      | _ => trivial
  · intro ⟨⟨hmodes, hnumber, houtside, hitems, hdue, hissued, hreached, hwithin⟩, hrest⟩
    obtain ⟨hcount, -, hqueue, hgate⟩ := hreached
    refine ⟨(modesLegal_iff s).2 ⟨hmodes, hrest⟩, hnumber, houtside, hitems, hdue, hissued,
      ⟨hcount, hqueue, hgate⟩, fun n it k hp => ?_, fun n it k hp => ?_⟩
    all_goals
      have := hwithin n (Finset.notMem_empty n)
      rwa [hp] at this

/-! ### Lanes within their ticks -/

theorem settled_within {l : Lane} (h : l.phase = .idle ∨ Within l.cfg l.phase) :
    Within l.settled.cfg l.settled.phase := by
  unfold Lane.settled
  cases hp : l.phase with
  | idle =>
    cases hq : l.queue with
    | nil => simp [Lane.takeHead, hp, hq, Within]
    | cons it rest =>
      simp only [Lane.takeHead, hp, hq]
      unfold beginItem
      split
      · exact .inl rfl
      all_goals
        split
        · exact .inl rfl
        · trivial
  | halted => simp [Within]
  | disabled | readyWait | shifting | gap | pausing =>
    rw [hp] at h
    rw [takeHead_of_not_idle (by simp [hp]), hp]
    exact h.resolve_left nofun

theorem ended_within (l : Lane) (o : ItemOutcome) : Within (l.ended o).cfg (l.ended o).phase := by
  unfold Lane.ended phaseAfter
  cases o with
  | fault => by_cases hh : l.cfg.haltOnFault = true <;> simp [hh, Within]
  | _ => trivial

theorem aborted_within {l : Lane} (h : Within l.cfg l.phase) : Within l.aborted.cfg l.aborted.phase := by
  unfold Lane.aborted
  split
  · exact h
  · exact h
  · trivial

theorem clearHalt_within {l : Lane} (h : Within l.cfg l.phase) : Within l.clearHalt.cfg l.clearHalt.phase := by
  unfold Lane.clearHalt
  split
  · trivial
  · exact h

/-- One lane replaced by a lane within its ticks, but where that lane may be late. -/
theorem within_set {v : Vector Lane 4} {n : Fin 4} {l : Lane} {late late' : Finset (Fin 4)}
    (h : ∀ m : Fin 4, m ∉ late → Within (v[m]).cfg (v[m]).phase) (hl : n ∉ late' → Within l.cfg l.phase)
    (hlate : ∀ m : Fin 4, m ≠ n → m ∉ late' → m ∉ late) (m : Fin 4) (hm : m ∉ late') :
    Within ((v.set n.val l n.isLt)[m]).cfg ((v.set n.val l n.isLt)[m]).phase := by
  by_cases hmn : m = n
  · subst hmn
    simpa using hl hm
  · have hne : (v.set n.val l n.isLt)[m] = v[m] := by
      simp only [Fin.getElem_fin, Vector.getElem_set]
      exact if_neg fun e => hmn (Fin.ext e.symm)
    rw [hne]
    exact h m (hlate m hmn hm)

theorem not_mem_of_erase {L : Finset (Fin 4)} {n m : Fin 4} (hmn : m ≠ n) (hm : m ∉ L.erase n) : m ∉ L :=
  fun h => hm (Finset.mem_erase.2 ⟨hmn, h⟩)

theorem issued_fixed (c : Ctrl) (k : ItemKind) : (c.issued k).fixed = c.fixed := by
  unfold Ctrl.issued
  split
  · rfl
  · exact advance_fixed _

theorem issued_current (c : Ctrl) (k : ItemKind) :
    (c.issued k).current = { c.current with due := c.current.due + 1, issued := c.current.issued + 1 } := by
  unfold Ctrl.issued
  split
  · rfl
  · exact advance_current _

/-! ### The operations -/

namespace FrameUpTo

variable {L : Finset (Fin 4)} {b : Bool} {s t : State} (h : FrameUpTo L b s)
include h

theorem mono {L' : Finset (Fin 4)} (hL : ∀ n : Fin 4, n ∉ L' → Within (s.lanes[n]).cfg (s.lanes[n]).phase) :
    FrameUpTo L' b s := ⟨h.modes, h.number, h.outside, h.items, h.due, h.issued, h.reached, hL⟩

theorem empty_lanes (hs : s.ctrl.state ≠ .active) (n : Fin 4) : (s.lanes[n]).items = [] :=
  (itemsHeld_eq_zero s).1 (h.outside hs) n

/-- What completions leave of the report and of the walker's reach. -/
theorem accounted {L' : Finset (Fin 4)} (hmodes : ModesUpTo b t) (ha : Accounted s t)
    (hwithin : ∀ n : Fin 4, n ∉ L' → Within (t.lanes[n]).cfg (t.lanes[n]).phase) : FrameUpTo L' b t := by
  have hwalked := ha.released.walked
  have hfixed := ha.released.fixed
  simp only [FrameReport.walked, Prod.mk.injEq] at hwalked
  simp only [Ctrl.fixed, CtrlFixed.mk.injEq] at hfixed
  obtain ⟨hdue, hissued, hskipped, hrejected⟩ := hwalked
  obtain ⟨hstate, hframe, -, -, -, -, -, -, -, hnumber, -⟩ := hfixed
  obtain ⟨hcount, hissuing, hqueue, hgate⟩ := h.reached
  refine ⟨hmodes, by rw [hnumber, hframe, h.number], fun hs => ?_, fun n it hit => ?_,
    by rw [hdue, hissued, hskipped, hrejected, h.due], ?_, ?_, hwithin⟩
  · have hzero := h.outside (hstate ▸ hs)
    have hfewer := ha.fewer
    omega
  · rw [hframe]
    exact h.items n it (ha.items n it hit)
  · rw [hissued, h.issued, ha.balance]
  · rw [hdue]
    rcases ha.released.walker with hcounted | ⟨hheld, ⟨hw, hp⟩ | hw⟩
    · rw [hcounted]
      exact h.reached
    · have := hgate hheld
      simp only [hw, hp]
      exact ⟨hcount, fun _ => this, nofun, nofun⟩
    · simp only [hw]
      exact ⟨hcount, nofun, nofun, nofun⟩

/-- A change of the scan controller that leaves report, frame and state as they are. -/
theorem withCtrl {c : Ctrl} (hmodes : ModesUpTo b { s with ctrl := c }) (hcurrent : c.current = s.ctrl.current)
    (hframe : c.frame = s.ctrl.frame) (hstate : c.state ≠ .active → s.ctrl.state ≠ .active ∨ itemsHeld s = 0)
    (hreached : (c.walker = .issuing → c.current.due ≤ c.position.val) ∧
      (c.walker = .heldQueue → c.current.due ≤ c.position.val) ∧
      (c.walker = .heldGate → c.current.due ≤ c.position.val + 1)) :
    FrameUpTo L b { s with ctrl := c } := by
  obtain ⟨hcount, -⟩ := h.reached
  refine ⟨hmodes, ?_, fun hs => (hstate hs).elim h.outside id, ?_, ?_, ?_, ⟨?_, hreached⟩, h.within⟩
  · show c.current.frame = c.frame
    rw [hcurrent, hframe, h.number]
  · show ∀ n : Fin 4, ∀ it ∈ (s.lanes[n]).items, it.frame = c.frame
    rw [hframe]
    exact h.items
  · show c.current.due = c.current.issued + c.current.gateSkipped + c.current.rejected
    rw [hcurrent, h.due]
  · show c.current.issued = c.current.accounted + itemsHeld s
    rw [hcurrent, h.issued]
  · show c.current.due ≤ 64
    rwa [hcurrent]

/-- A change of the lanes that leaves their items and the controller as they are. -/
theorem withLanes {L' : Finset (Fin 4)} {b' : Bool} (hmodes : ModesUpTo b' t) (hctrl : t.ctrl = s.ctrl)
    (hitems : ∀ n : Fin 4, (t.lanes[n]).items = (s.lanes[n]).items)
    (hwithin : ∀ n : Fin 4, n ∉ L' → Within (t.lanes[n]).cfg (t.lanes[n]).phase) : FrameUpTo L' b' t := by
  refine ⟨hmodes, by rw [hctrl, h.number], ?_, fun n it hit => ?_, by rw [hctrl, h.due], ?_, ?_, hwithin⟩
  · rw [hctrl, itemsHeld_congr hitems]
    exact h.outside
  · rw [hctrl]
    exact h.items n it (hitems n ▸ hit)
  · rw [hctrl, itemsHeld_congr hitems, h.issued]
  · rw [hctrl]
    exact h.reached

/-- An entry that a walker past no more than its position issues (R34). -/
theorem issueEntry {k : ItemKind} (hmodes : ModesUpTo b (issueEntry k s.entry s))
    (hwalker : s.ctrl.walker = .issuing ∨ s.ctrl.walker = .heldQueue) : FrameUpTo L b (issueEntry k s.entry s) := by
  have hreached : s.ctrl.current.due ≤ s.ctrl.position.val := by
    obtain ⟨-, hissuing, hqueue, -⟩ := h.reached
    exact hwalker.elim hissuing hqueue
  have hactive : s.ctrl.state = .active := by
    cases hs : s.ctrl.state with
    | active => rfl
    | stopped => rcases hwalker with hw | hw <;> exact nomatch hw.symm.trans (h.modes.stopped hs).1
    | waiting => rcases hwalker with hw | hw <;> exact nomatch hw.symm.trans (h.modes.waiting hs).1
  obtain ⟨hmoves, hmoves'⟩ : (s.ctrl.issued k).walker ≠ .idle ∧
      (((s.ctrl.issued k).walker = .issuing → s.ctrl.current.due + 1 ≤ (s.ctrl.issued k).position.val) ∧
        ((s.ctrl.issued k).walker = .heldQueue → s.ctrl.current.due + 1 ≤ (s.ctrl.issued k).position.val) ∧
        ((s.ctrl.issued k).walker = .heldGate → s.ctrl.current.due + 1 ≤ (s.ctrl.issued k).position.val + 1)) := by
    rcases issued_moves s.ctrl k with ⟨hw, hp⟩ | ⟨hw, hp⟩ | hw
    · rw [hw, hp]
      exact ⟨nofun, nofun, nofun, fun _ => by omega⟩
    · rw [hw, hp]
      exact ⟨nofun, fun _ => by omega, nofun, nofun⟩
    · rw [hw]
      exact ⟨nofun, nofun, nofun, nofun⟩
  have hfixed := issued_fixed s.ctrl k
  have hcurrent := issued_current s.ctrl k
  let it := makeItem s.ctrl.position k s.entry s.ctrl.frame
  let u := setLane s.entry.lane (s.entryLane.queued it) { s with ctrl := s.ctrl.issued k }
  have hmodes' : ModesUpTo b u := h.modes.walked (t := u) hfixed rfl
    (by rcases hwalker with hw | hw <;> simp [hw]) hmoves
  have hheld : itemsHeld u + s.entryLane.items.length = itemsHeld s + (s.entryLane.queued it).items.length :=
    itemsHeld_set rfl
  rw [queued_items, List.length_append, List.length_singleton] at hheld
  simp only [Ctrl.fixed, CtrlFixed.mk.injEq] at hfixed
  obtain ⟨hstate, hframe, -⟩ := hfixed
  have hlane {m : Fin 4} (hm : m ≠ s.entry.lane) : u.lanes[m] = s.lanes[m] :=
    setLane_lanes_ne { s with ctrl := s.ctrl.issued k } s.entry.lane m _ (Ne.symm hm)
  have hu : FrameUpTo L b u := by
    refine ⟨hmodes', ?_, fun hs => absurd (hstate.trans hactive) hs, fun m x hx => ?_, ?_, ?_, ⟨?_, ?_⟩, ?_⟩
    · show (s.ctrl.issued k).current.frame = (s.ctrl.issued k).frame
      rw [hcurrent, hframe, h.number]
    · show x.frame = (s.ctrl.issued k).frame
      rw [hframe]
      by_cases hm : m = s.entry.lane
      · subst hm
        rw [setLane_lanes_self, queued_items, List.mem_append, List.mem_singleton] at hx
        rcases hx with hx | rfl
        · exact h.items _ x hx
        · rfl
      · rw [hlane hm] at hx
        exact h.items m x hx
    · show (s.ctrl.issued k).current.due = _
      have hdue := h.due
      simp only [u, setLane_ctrl, hcurrent]
      omega
    · have hissued := h.issued
      simp only [FrameReport.accounted] at hissued
      simp only [u, setLane_ctrl, hcurrent, FrameReport.accounted] at hheld ⊢
      omega
    · have := s.ctrl.position.isLt
      simp only [u, setLane_ctrl, hcurrent]
      omega
    · simp only [u, setLane_ctrl, hcurrent]
      exact hmoves'
    · exact within_set h.within (fun hn => h.within _ hn) fun _ _ hm => hm
  refine hu.accounted hmodes (settleLane_accounted u s.entry.lane) ?_
  rw [issueEntry_eq, enqueue_lanes]
  exact within_set h.within (fun hn => settled_within (.inr (h.within _ hn))) fun _ _ hm => hm

end FrameUpTo

/-- A due entry that the walker counts past, under `gateSkipped` or `rejected`, on its way to the next index. -/
theorem FrameUpTo.counted {L : Finset (Fin 4)} {b : Bool} {s t : State} (h : FrameUpTo L b s)
    (hmodes : ModesUpTo b t) (hw : s.ctrl.walker = .issuing) (hfixed : t.ctrl.fixed = s.ctrl.fixed)
    (hlanes : t.lanes = s.lanes) (hissued : t.ctrl.current.issued = s.ctrl.current.issued)
    (haccounted : t.ctrl.current.accounted = s.ctrl.current.accounted)
    (hdue : t.ctrl.current.due + s.ctrl.current.gateSkipped + s.ctrl.current.rejected =
      s.ctrl.current.due + t.ctrl.current.gateSkipped + t.ctrl.current.rejected)
    (hone : t.ctrl.current.due ≤ s.ctrl.current.due + 1)
    (hmoves : (t.ctrl.walker = .issuing ∧ t.ctrl.position.val = s.ctrl.position.val + 1) ∨
      t.ctrl.walker = .draining) : FrameUpTo L b t := by
  have hheld : itemsHeld t = itemsHeld s := by rw [itemsHeld, hlanes, itemsHeld]
  have hreached := h.reached.2.1 hw
  have hposition := s.ctrl.position.isLt
  have hbalance := h.due
  simp only [Ctrl.fixed, CtrlFixed.mk.injEq] at hfixed
  obtain ⟨hstate, hframe, -, -, -, -, -, -, -, hnumber, -⟩ := hfixed
  refine ⟨hmodes, by rw [hnumber, hframe, h.number], by rw [hstate, hheld]; exact h.outside,
    by rw [hlanes, hframe]; exact h.items, by omega, by rw [hissued, haccounted, hheld, h.issued], ?_,
    by rw [hlanes]; exact h.within⟩
  rcases hmoves with ⟨hwalker, hp⟩ | hwalker
  · rw [hwalker, hp]
    exact ⟨by omega, fun _ => by omega, nofun, nofun⟩
  · rw [hwalker]
    exact ⟨by omega, nofun, nofun, nofun⟩

theorem FrameUpTo.walkEntry {L : Finset (Fin 4)} {b : Bool} {s : State} (h : FrameUpTo L b s)
    (hw : s.ctrl.walker = .issuing) : FrameUpTo L b (walkEntry s) := by
  have hmodes := modes_keeps.walkEntry (L := L) hw h.modes
  have hfixed := walkEntry_fixed s
  have hreached := h.reached.2.1 hw
  have htaken := walkEntry_entryTaken s
  generalize Machine.walkEntry s = t at hmodes hfixed htaken ⊢
  cases htaken with
  | passed =>
    refine h.counted hmodes hw hfixed rfl ?_ ?_ ?_ ?_ (advance_moves _) <;> rw [passOver_ctrl, advance_current]
    exact Nat.le_succ _
  | skipped =>
    refine h.counted hmodes hw hfixed rfl ?_ ?_ ?_ ?_ (advance_moves _) <;> rw [passOver_ctrl, advance_current]
    · rfl
    · rfl
    · simp only [countSkipped]
      omega
    · exact Nat.le_refl _
  | rejected k why =>
    have hcurrent : (rejectEntry k s.entry why s).ctrl.current = { s.ctrl.current with
        due := s.ctrl.current.due + 1, rejected := s.ctrl.current.rejected + 1 } := by
      simp only [rejectEntry, raise_ctrl, advance_current]
      split <;> simp
    have hposition : ∀ c : Ctrl, c.position = s.ctrl.position →
        (c.advance.walker = .issuing ∧ c.advance.position.val = s.ctrl.position.val + 1) ∨
          c.advance.walker = .draining := fun c hc => hc ▸ advance_moves c
    refine h.counted hmodes hw hfixed rfl ?_ ?_ ?_ ?_ (hposition _ ?_)
    · rw [hcurrent]
    · rw [hcurrent]
      rfl
    · rw [hcurrent]
      simp only
      omega
    · rw [hcurrent]
    · simp only [Ctrl.recordRejection]
      split <;> split <;> rfl
  | issued k hchecks hroom => exact h.issueEntry hmodes (.inl hw)
  | held k =>
    exact h.withCtrl hmodes rfl rfl .inl ⟨nofun, fun _ => hreached, nofun⟩
  | ended => exact h.withCtrl hmodes rfl rfl .inl ⟨nofun, nofun, nofun⟩

theorem overdue_iff {s : State} {n : Fin 4} :
    n ∉ overdue s ↔ timeoutReached n s = false ∧ pauseReached n s = false := by
  simp [overdue]

/-- After the counts of a tick the waits that are not over are within their ticks. -/
theorem takeTick_within {s : State} {n : Fin 4} (hn : n ∉ overdue s) : Within (s.lanes[n]).cfg (s.lanes[n]).phase := by
  obtain ⟨hready, hpause⟩ := overdue_iff.1 hn
  cases hp : (s.lanes[n]).phase with
  | readyWait it k =>
    simp only [timeoutReached, hp, decide_eq_false_iff_not] at hready
    exact .inr (by omega)
  | pausing it k =>
    simp only [pauseReached, hp, decide_eq_false_iff_not] at hpause
    exact .inr (by omega)
  | _ => trivial

/-- With no item on a lane the frame is legal whatever waits may be late. -/
theorem FrameUpTo.calm {L L' : Finset (Fin 4)} {b : Bool} {s : State} (h : FrameUpTo L b s)
    (hs : s.ctrl.state ≠ .active) : FrameUpTo L' b s :=
  h.mono fun n _ => within_of_item (phase_item_of_items (h.empty_lanes hs n))

theorem itemsHeld_of_boundary {L : Finset (Fin 4)} {b : Bool} {s : State} (h : FrameUpTo L b s)
    (hs : s.ctrl.state = .waiting ∨ lanesEmpty s = true) : itemsHeld s = 0 := by
  rcases hs with hs | hs
  · exact h.outside (by simp [hs])
  · exact (itemsHeld_eq_zero s).2 ((lanesEmpty_iff s).1 hs)

/-- A scan controller and lanes just reset hold a legal frame. -/
theorem frameUpTo_of_reset {s : State} (hmodes : ModesUpTo false s) (hcurrent : s.ctrl.current = .afterReset)
    (hframe : s.ctrl.frame = 0) (hwalker : s.ctrl.walker = .idle) (hitems : ∀ n : Fin 4, (s.lanes[n]).items = []) :
    FrameUpTo ∅ false s := by
  have hheld := (itemsHeld_eq_zero s).2 hitems
  refine ⟨hmodes, by rw [hcurrent, hframe]; rfl, fun _ => hheld, fun n it hit => absurd (hitems n ▸ hit) List.not_mem_nil,
    by rw [hcurrent]; rfl, by rw [hcurrent, hheld]; rfl, ?_, fun n _ => within_of_item (phase_item_of_items (hitems n))⟩
  rw [hcurrent, hwalker]
  exact ⟨Nat.zero_le _, nofun, nofun, nofun⟩

/-- Each operation keeps the frame legal. -/
theorem frame_keeps : Keeps FrameUpTo where
  congr {L _ s t} hcore h := by
    have hmodes := modes_keeps.congr (L := L) hcore h.modes
    simp only [State.core, Core.mk.injEq] at hcore
    obtain ⟨hstate, hwalker, hposition, -, hframe, -, -, -, -, hnumber, hwalked, haccounted, hlanes, -⟩ := hcore
    simp only [FrameReport.walked, Prod.mk.injEq] at hwalked
    obtain ⟨hdue, hissued, hskipped, hrejected⟩ := hwalked
    have hheld : itemsHeld t = itemsHeld s := by rw [itemsHeld, hlanes, itemsHeld]
    exact ⟨hmodes, by rw [hnumber, hframe, h.number], by rw [hstate, hheld]; exact h.outside,
      by rw [hlanes, hframe]; exact h.items, by rw [hdue, hissued, hskipped, hrejected, h.due],
      by rw [hissued, haccounted, hheld, h.issued], by rw [hdue, hwalker, hposition]; exact h.reached,
      by rw [hlanes]; exact h.within⟩
  idle h hs := (h.modes.stopped hs).1
  calm h hs := h.calm (by simp [hs])
  settleItem {L _ s n it o} hit h := by
    refine h.accounted (modes_keeps.settleItem (L := L) hit h.modes) (settleItem_accounted s n hit o) ?_
    rw [settleItem_lanes]
    exact within_set h.within (fun _ => settled_within (.inr (ended_within _ o))) fun _ => not_mem_of_erase
  within {L _ s n} hn h := h.mono fun m hm => by
    by_cases hmn : m = n
    · exact hmn ▸ hn
    · exact h.within m (not_mem_of_erase hmn hm)
  phase {L _ s n it p} hit hp h := by
    refine h.withLanes (modes_keeps.phase (L := L) hit hp h.modes) rfl (fun m => ?_) fun m hm => ?_
    · by_cases hmn : m = n
      · subst hmn
        rw [setPhase_lanes_self]
        rw [Lane.items, Lane.items, hit, hp]
      · rw [setPhase, setLane_lanes_ne s n m _ (Ne.symm hmn)]
    · obtain ⟨hmn, hm⟩ := not_or.1 (Finset.mem_insert.not.1 hm)
      rw [setPhase, setLane_lanes_ne s n m _ (Ne.symm hmn)]
      exact h.within m hm
  settleLane {L _ s} n h := by
    refine h.accounted (modes_keeps.settleLane (L := L) n h.modes) (settleLane_accounted s n) ?_
    rw [settleLane_lanes]
    exact within_set h.within (fun hn => settled_within (.inr (h.within n hn))) fun _ _ hm => hm
  walkEntry hw h := h.walkEntry hw
  release {L _ s k} hd hk h := by
    obtain ⟨hw, -⟩ := Bool.and_eq_true_iff.1 hd
    exact h.issueEntry (modes_keeps.release (L := L) hd hk h.modes) (.inr (of_decide_eq_true hw))
  abortLane {L _ s} n h := by
    refine h.accounted (modes_keeps.abortLane (L := L) n h.modes) (abortLane_accounted s n) ?_
    rw [abortLane_lanes]
    exact within_set h.within (fun hn => aborted_within (h.within n hn)) fun _ _ hm => hm
  tick {s} h := h.withLanes (modes_keeps.tick h.modes) rfl
    (fun n => by simpa using countTick_items s.lanes[n]) fun n hn => takeTick_within hn
  act {L _ _} hc h := ⟨modes_keeps.act (L := L) hc h.modes, h.number, h.outside, h.items, h.due, h.issued, h.reached,
    h.within⟩
  begun {L b s} hs h := by
    have hheld := itemsHeld_of_boundary h hs
    refine ⟨modes_keeps.begun (L := L) hs h.modes, rfl, fun _ => hheld, fun n it hit => ?_, rfl, ?_, ?_, h.within⟩
    · have hit' : it ∈ (s.lanes[n]).items := hit
      rw [(itemsHeld_eq_zero s).1 hheld n] at hit'
      exact nomatch hit'
    · show 0 = 0 + itemsHeld s
      omega
    · exact ⟨Nat.zero_le _, fun _ => Nat.zero_le _, nofun, nofun⟩
  stopped {L b s} hs h := by
    obtain ⟨hcount, -⟩ := h.reached
    have hheld := itemsHeld_of_boundary h hs
    exact ⟨modes_keeps.stopped (L := L) hs h.modes, h.number, fun _ => hheld, h.items, h.due,
      h.issued, ⟨hcount, nofun, nofun, nofun⟩, h.within⟩
  waiting {L _ s} hl hp hd h := h.withCtrl (modes_keeps.waiting (L := L) hl hp hd h.modes) rfl rfl
    (fun _ => .inr (itemsHeld_of_boundary h (.inr hl))) ⟨nofun, nofun, nofun⟩
  deferred {L _ _ _} hs h := h.withCtrl (modes_keeps.deferred (L := L) hs h.modes) rfl rfl .inl h.reached.2
  start {s} hs h := ⟨modes_keeps.start hs h.modes, h.number, fun _ => h.outside (by simp [hs]), h.items, h.due, h.issued,
    h.reached, h.within⟩
  stopping hs h := h.withCtrl (modes_keeps.stopping hs h.modes) rfl rfl .inl h.reached.2
  aborting hs h := h.withCtrl (modes_keeps.aborting hs h.modes) rfl rfl .inl ⟨nofun, nofun, nofun⟩
  swap hs h := ⟨modes_keeps.swap hs h.modes, h.number, h.outside, h.items, h.due, h.issued, h.reached, h.within⟩
  committed hs h := h.withCtrl (modes_keeps.committed hs h.modes) rfl rfl .inl h.reached.2
  clearHalt {s} n h := by
    refine h.withLanes (modes_keeps.clearHalt n h.modes) rfl (fun m => ?_) ?_
    · by_cases hmn : m = n
      · subst hmn
        rw [setLane_lanes_self, clearHalt_items]
      · rw [setLane_lanes_ne s n m _ (Ne.symm hmn)]
    · exact within_set h.within (fun hn => clearHalt_within (h.within n hn)) fun _ _ hm => hm
  configure {s n k v c} hs hc h := by
    have hempty := h.empty_lanes (by simp [hs])
    have hconfigured := configure_items (hempty n) c
    refine h.withLanes (modes_keeps.configure hs hc h.modes) rfl (fun m => ?_) ?_
    · by_cases hmn : m = n
      · subst hmn
        rw [setLane_lanes_self, hconfigured, hempty]
      · rw [setLane_lanes_ne s n m _ (Ne.symm hmn)]
    · exact within_set h.within (fun _ => within_of_item (phase_item_of_items hconfigured)) fun _ _ hm => hm
  mode m hs h := ⟨modes_keeps.mode m hs h.modes, h.number, h.outside, h.items, h.due, h.issued, h.reached, h.within⟩
  period v h := ⟨modes_keeps.period v h.modes, h.number, h.outside, h.items, h.due, h.issued, h.reached, h.within⟩
  softReset {s} h := frameUpTo_of_reset (modes_keeps.softReset h.modes) rfl rfl rfl fun n => by
    simpa using softReset_items s.lanes[n]
  powerOn s := frameUpTo_of_reset (modes_keeps.powerOn s) rfl rfl rfl fun n => by
    show (State.reset.lanes[n]).items = []
    simp [State.reset, Lane.powerOn, Lane.items, LanePhase.item]

/-- Settles O56: every operation of a row counts what it takes from the lanes, and a tick ends the waits that have
lasted all their ticks. -/
theorem stepKeepsFrameLegal : Obligations.StepKeepsFrameLegal := by
  intro s t hs hstep
  rw [frameLegal_iff] at *
  exact frame_keeps.step hs hstep

end Sys2Proof.Machine
end

section
/-! Proofs about the resets and the host's commands (chapters 1, 2, 3, 5, 9). -/

namespace Sys2Proof.Machine

/-! ### The reset state -/

/-- Settles O52: the reset state is the power-on state with no reset held, and each block's part of it is legal. -/
theorem resetIsLegal : Obligations.ResetIsLegal := by
  have hmodes : ModesUpTo false State.reset := modesUpTo_of_stopped rfl rfl ⟨rfl, rfl, rfl, rfl⟩ rfl
  have hrest : AtRest State.reset := nofun
  have hitems (n : Fin 4) : (State.reset.lanes[n]).items = [] := by
    simp [State.reset, Lane.powerOn, Lane.items, LanePhase.item]
  exact ⟨(modesLegal_iff _).2 ⟨hmodes, hrest⟩, (powerOn_banksLegal State.reset).congr rfl rfl rfl id,
    (lanesLegal_iff _).2 ⟨⟨hmodes, powerOn_lanes, nofun⟩, hrest⟩,
    (frameLegal_iff _).2 ⟨frameUpTo_of_reset hmodes rfl rfl rfl hitems, hrest⟩,
    (powerOn_slotsLegal State.reset).congr rfl rfl, alertsLegal_of_empty rfl,
    (powerOn_serviceLegal State.reset).congr rfl rfl, mirrorLegal_of_idle rfl rfl⟩

/-- While the device is held in power-on reset a row that waits for its release does nothing (R159). -/
theorem running_of_inReset {s : State} (h : s.inReset = true) (f : State → State) : running f s = .next s := by
  simp [running, whenRunning, h]

theorem exec_of_inReset {c : Instr} {s : State} (h : s.inReset = true) (hon : c ≠ .powerOnReset)
    (hrelease : ∀ f m, c ≠ .resetRelease f m) : exec c s = .next s := by
  cases c with
  | powerOnReset => exact absurd rfl hon
  | resetRelease f m => exact absurd rfl (hrelease f m)
  | _ => exact running_of_inReset h _

theorem irqActive_of_masked {s : State} (h : ∀ n : Fin 16, (s.events.sources[n]).masked = true) :
    irqActive s = false := by
  refine Bool.eq_false_iff.2 fun hactive => ?_
  obtain ⟨n, hn⟩ := (irqActive_iff s).1 hactive
  obtain ⟨-, hmask, -⟩ := (isEligible_iff s n).1 hn
  exact nomatch (h n).symm.trans hmask

/-- Settles O3: each block's power-on state is read off field by field. -/
theorem powerOnResetAndRelease : Obligations.PowerOnResetAndRelease := by
  refine ⟨fun c s h => exec_of_inReset h, fun s => ⟨powerOn s, rfl, rfl, rfl, ?banks, ?ctrl, ?lanes, ?slots, ?latch,
    ?limits, rfl, ?timer, ?sources, ?events, ?mirror, ?window⟩, fun ftrig msel s h => ?release⟩
  case release => simp [exec, execResetRelease, when, h, release]
  case banks => exact fun i k => by simp [powerOn, State.reset, Entry.blank, Entry.word]
  case ctrl => exact ⟨rfl, rfl, rfl, rfl, rfl, rfl, rfl, rfl, rfl, rfl, rfl, rfl, rfl, rfl⟩
  case lanes => exact fun n => by simp [powerOn, State.reset, Lane.powerOn, LaneConfig.powerOn]
  case slots => exact fun i => by simp [powerOn, State.reset, SampleTable.afterReset, Slot.cleared]
  case latch => exact ⟨rfl, by simp [powerOn, State.reset, SampleTable.afterReset], rfl, rfl⟩
  case limits => exact fun i => by simp [powerOn, State.reset, SlotConfig.powerOn]
  case timer => exact ⟨rfl, rfl, rfl, rfl, rfl, rfl, rfl⟩
  case sources => exact fun n => by simp [powerOn, State.reset, Events.powerOn]
  case events => exact ⟨rfl, rfl, rfl, rfl, irqActive_of_masked fun n => by simp [powerOn, State.reset, Events.powerOn],
    irqPin_inReset rfl⟩
  case mirror => exact ⟨rfl, rfl, rfl, rfl, rfl, rfl, rfl, rfl, rfl, rfl⟩
  case window => exact ⟨rfl, rfl, rfl, rfl, rfl, rfl, rfl⟩

/-! ### SOFT_RESET -/

/-- The sources that a soft reset can leave pending, bit by bit (R142, R175, R176). -/
theorem inRaiseOrder_getLsbD (keep : Word) (n : Fin 16) : (inRaiseOrder keep).getLsbD n.val =
    (keep.getLsbD n.val &&
      (decide (n ≠ 5) || keep.getLsbD 7 && keep.getLsbD 4 && keep.getLsbD 15) &&
      (decide (n ≠ 7) || keep.getLsbD 4 && keep.getLsbD 15)) := by
  have hswap (m : Fin 16) : (if keep.getLsbD 4 && keep.getLsbD 15 then keep else clearBit keep 7).getLsbD m.val =
      (keep.getLsbD m.val && (decide (m ≠ 7) || keep.getLsbD 4 && keep.getLsbD 15)) := by
    split
    next h => rw [h, Bool.or_true, Bool.and_true]
    next h =>
      rw [clearBit_getLsbD, Bool.eq_false_iff.2 h]
      by_cases hm : m = 7 <;> simp [hm]
  have h7 := hswap 7
  simp only [inRaiseOrder]
  rw [show (srcFrameStart : Fin 16).val = 4 from rfl, show (srcControllerStopped : Fin 16).val = 15 from rfl, h7]
  split
  next h =>
    obtain ⟨h7, h4, h15⟩ : keep.getLsbD 7 = true ∧ keep.getLsbD 4 = true ∧ keep.getLsbD 15 = true := by
      simpa using h
    rw [hswap, h7, h4, h15]
    simp only [Bool.and_self, Bool.or_true, Bool.and_true]
  next h =>
    have : (keep.getLsbD 7 && keep.getLsbD 4 && keep.getLsbD 15) = false := by
      simpa [Bool.and_assoc] using h
    rw [clearBit_getLsbD, hswap, this]
    by_cases hn : n = 5 <;> simp [hn]

theorem mirror_softReset_eq (m : Mirror) : m.softReset = { m with
    transaction := if m.transaction = .idle then .idle else .abandoned
    mdo := none, latch := .zeros, note := 0, unread := false, overwrite := false, error := none
    errorRepeat := false } := by
  cases h : m.transaction <;> simp [Mirror.softReset, h]

end Sys2Proof.Machine

namespace Sys2Proof

open Machine

/-- Settles O4: the rows that meet the reset are taken as rows, and the reset then replaces each block. -/
theorem softReset : Obligations.SoftReset := by
  refine ⟨fun c s => ⟨fun _ hc => ?_, fun hm hi => eventRow_other s c hm hi⟩, fun keep n hn => ?_, ?_⟩
  · rw [eventRow_exec s c hc]
    exact exec_eq_next c s
  · have h := inRaiseOrder_getLsbD keep ⟨n, hn⟩
    simpa [Fin.ext_iff] using h
  · rintro s first t met hs rfl rfl rfl
    rw [exec_softReset hs]
    simp only [commandSoftReset, Machine.softReset, mirror_softReset_eq, mapLanes_eq_map]
    rfl

end Sys2Proof
end

section
/-! Proofs about the host's commands and the walk (chapters 1, 2 and 9). -/

namespace Sys2Proof.Machine

/-! ### START, STOP, TRIGGER -/

theorem load_of_own_mode {t : Timebase} (h : t.mode = .periodic ∨ t.mode = .oneShot) :
    t.load = { t with count := t.period, counting := decide (t.period ≠ 0) } := by
  rcases h with h | h <;> simp [Timebase.load, h]

theorem load_of_other_mode {t : Timebase} (h : t.mode = .off ∨ t.mode = .external) : t.load = t := by
  rcases h with h | h <;> simp [Timebase.load, h]

theorem commandStart_of_stopped {s : State} (h : s.ctrl.state = .stopped) : commandStart s =
    setResult .accepted 0 { s with ctrl := { s.ctrl with state := .waiting }, timer := s.timer.load } := if_pos h

theorem expiresNext_eq_false {t : Timebase} (h : t.counting = false ∨ t.count ≠ 1) : t.expiresNext = false := by
  rcases h with h | h
  · simp [Timebase.expiresNext, h]
  · simpa [Timebase.expiresNext] using fun _ => h

theorem expiresNext_eq_true {t : Timebase} (hc : t.counting = true) (h : t.count = 1) : t.expiresNext = true := by
  simp [Timebase.expiresNext, hc, h]

/-- With no expiring tick before it, the halt finds the state as it is (R118). -/
theorem stopWaiting_of_halt {tickFirst : Bool} {s : State}
    (h : tickFirst = false ∨ s.timer.counting = false ∨ s.timer.count ≠ 1) :
    stopWaiting tickFirst s = stoppedFrom s := by
  rw [stopWaiting_eq, if_neg]
  rcases h with h | h
  · simp [h]
  · simp [expiresNext_eq_false h]

/-- With the expiring tick before it, the halt finds the timer after its action (R118). -/
theorem stopWaiting_of_tick {tickFirst : Bool} {s : State} (h : tickFirst = true) (hc : s.timer.counting = true)
    (h1 : s.timer.count = 1) : stopWaiting tickFirst s =
      stoppedFrom { takeTick s with timer := (takeTick s).timer.afterExpiry } := by
  rw [stopWaiting_eq, if_pos (by simp [h, expiresNext_eq_true hc h1])]
  rfl

/-- Settles O5: START by the mode of the timer, STOP by the state of the controller. -/
theorem startAndStop : Obligations.StartAndStop := by
  intro s hs
  have hstart : exec .start s = .next (commandStart s) := running_eq_next hs _
  have hstop : exec .stop s = .next (commandStop s) := running_eq_next hs _
  rw [hstart, hstop]
  refine ⟨fun h hm => ?_, fun h hm => ?_, fun h => ?_, fun h => ?_, fun h met t hmet ht => ⟨fun hhalt => ?_, ?_⟩,
    fun h => ?_⟩
  · rw [commandStart_of_stopped h, load_of_own_mode hm]
  · rw [commandStart_of_stopped h, load_of_other_mode hm]
  · rw [commandStart, if_neg h]
  · simp only [commandStop, h]
    rfl
  · simp only [commandStop, h]
    subst hmet ht
    rw [nextMeeting, stopWaiting_of_halt (s := takeMeeting s) hhalt]
    rfl
  · intro hfirst hc h1
    simp only [commandStop, h]
    subst hmet ht
    rw [nextMeeting, stopWaiting_of_tick (s := takeMeeting s) hfirst hc h1]
    rfl
  · simp only [commandStop, h]
    rfl

theorem takeTrigger_of_dropped {s : State} (h : s.ctrl.state = .active) (hp : s.ctrl.stopPending = false)
    (hd : s.timer.deferPolicy = false ∨ s.ctrl.deferred = true) : takeTrigger s = dropTrigger s := by
  have hpolicy : (s.timer.deferPolicy && !s.ctrl.deferred) = false := by
    rcases hd with hd | hd <;> simp [hd]
  simp [takeTrigger, h, hp, hpolicy]

/-- Settles O7: the table of R24, row by row. -/
theorem triggerCommand : Obligations.TriggerCommand := by
  refine fun s => ⟨fun hs => running_eq_next hs commandTrigger, fun h => ?_, fun h => ?_, fun h hp => ?_,
    fun h hp hd => ?_, fun h hp hd hf => ?_⟩
  · simp [takeTrigger, h]
  · simp [takeTrigger, h, frameStart_eq]
  · simp [takeTrigger, h, hp]
  · rw [takeTrigger_of_dropped h hp hd, dropTrigger]
    have hcount : (if s.ctrl.overruns = 255 then s.ctrl.overruns else s.ctrl.overruns + 1) =
        if s.ctrl.overruns = 255 then 255 else s.ctrl.overruns + 1 := by
      split
      next hmax => exact hmax
      next => rfl
    simp only [raise, hcount]
  · simp [takeTrigger, h, hp, hd, hf]

/-! ### COMMIT -/

/-- The lowest entry that fails a check is the one that validation names (R15). -/
theorem firstInvalid_eq_some {b : Bank} {i : Fin 64} (hi : ¬ EntrySound b[i]) (hlow : ∀ j < i, EntrySound b[j]) :
    firstInvalid b = some i := by
  rw [firstInvalid, List.find?_eq_some_iff_getElem]
  refine ⟨by simpa [← entryValid_iff] using hi, i.val, by simp [allEntries], by simp [allEntries], fun j hj => ?_⟩
  have := hlow ⟨j, by omega⟩ (Fin.lt_def.2 hj)
  simpa [allEntries, ← entryValid_iff] using this

theorem other_eq (n : BankName) : n.other = match n with | .a => .b | .b => .a := by cases n <;> rfl

/-- Settles O8: validation finds the lowest unsound entry, and a sound bank is swapped in or its swap recorded. -/
theorem commitCommand : Obligations.CommitCommand := by
  intro s hs
  have hcommit : exec .commit s = .next (commandCommit s) := running_eq_next hs _
  rw [hcommit, commandCommit]
  refine ⟨fun h => by rw [if_pos h], fun h => ?_⟩
  rw [if_neg (by simp [h])]
  refine ⟨fun i hi hlow => by rw [firstInvalid_eq_some hi hlow], fun hb hst => ?_, fun hb hst => ?_⟩
  · rw [(firstInvalid_eq_none _).2 hb]
    simp only [hst, if_true, swapBanks, other_eq]
    rfl
  · rw [(firstInvalid_eq_none _).2 hb]
    simp only [hst, if_false]
    rfl

/-! ### The CLEAR commands and the codes -/

theorem setLane_self (n : Fin 4) (s : State) : setLane n s.lanes[n] s = s := by simp [setLane]

theorem clearHalt_of_ne {l : Lane} (h : l.phase ≠ .halted) : l.clearHalt = l := by simp [Lane.clearHalt, h]

/-- Settles O10: each clear changes what it names, and a drop is counted before or after CLEAR_OVERRUN. -/
theorem clearCommands : Obligations.ClearCommands := by
  intro s hs
  have hlane : exec .clearLane s = .next (commandClearLane s) := running_eq_next hs _
  have hslot : exec .clearSlot s = .next (commandClearSlot s) := running_eq_next hs _
  have hin {n : Fin 4} (h : s.window.cmdArg.toNat = n.val) :
      commandClearLane s = accepted (setLane n (s.lanes[n]).clearHalt s) := by
    have hlt : s.window.cmdArg.toNat < 4 := by omega
    have hn : (⟨s.window.cmdArg.toNat, hlt⟩ : Fin 4) = n := Fin.ext h
    rw [commandClearLane, dif_pos hlt]
    simp only [hn]
  refine ⟨fun n h hh => ?_, fun n h hh => ?_, fun h => ?_, fun i h => ?_, fun h => ?_, running_eq_next hs _,
    running_eq_next hs _, running_eq_next hs _, fun hst hp hd => ?_⟩
  · rw [hlane, hin h]
    simp only [Lane.clearHalt, hh, if_true]
    rfl
  · rw [hlane, hin h]
    rw [clearHalt_of_ne hh, setLane_self]
    rfl
  · rw [hlane, commandClearLane, dif_neg (by omega)]
  · have hlt : s.window.cmdArg.toNat < 64 := by omega
    have hi : (⟨s.window.cmdArg.toNat, hlt⟩ : Fin 64) = i := Fin.ext h
    rw [hslot, commandClearSlot, dif_pos hlt, hi]
    rfl
  · rw [hslot, commandClearSlot, dif_neg (by omega)]
  · have htrigger {t : State} (ht : Running t) : exec .trigger t = .next (commandTrigger t) := running_eq_next ht _
    have hclear {t : State} (ht : Running t) : exec .clearOverrun t = .next (commandClearOverrun t) :=
      running_eq_next ht _
    have hdrop {t : State} (h1 : t.ctrl.state = .active) (h2 : t.ctrl.stopPending = false)
        (h3 : t.timer.deferPolicy = false) : commandTrigger t = accepted (dropTrigger t) := by
      rw [commandTrigger, takeTrigger_of_dropped h1 h2 (.inl h3)]
    refine ⟨⟨commandClearOverrun (commandTrigger s), ?_, rfl, ?_⟩, ⟨commandTrigger (commandClearOverrun s), ?_, ?_, ?_⟩⟩
    · simp only [execAll, htrigger hs]
      rw [hclear (by rw [hdrop hst hp hd]; exact hs)]
    · rw [hdrop hst hp hd]
      rfl
    · simp only [execAll, hclear hs]
      rw [htrigger (show Running (commandClearOverrun s) from hs)]
    · rw [hdrop (t := commandClearOverrun s) hst hp hd]
      simp [dropTrigger, commandClearOverrun]
    · rw [hdrop (t := commandClearOverrun s) hst hp hd]
      rfl

theorem writeCommand_of_no_code {v : Word} (h : v.toNat = 0 ∨ 13 ≤ v.toNat) (s : State) :
    writeCommand v s = setResult .refusedCode 0 s := by
  unfold writeCommand
  split
  case h_13 => rfl
  all_goals omega

/-- Settles O11: a value selects its command by its code. -/
theorem commandCodes : Obligations.CommandCodes := by
  intro s hs
  have hwrite (v : Word) : exec (.undefinedCommandCode v) s = .next (writeCommand v s) := running_eq_next hs _
  refine ⟨fun v h => by rw [hwrite, writeCommand_of_no_code h], fun c v h => ?_⟩
  rw [hwrite]
  have hcode {f : State → State} {n : Nat} (hv : v.toNat = n) (hf : writeCommand (BitVec.ofNat 16 n) s = f s) :
      writeCommand v s = f s := by
    rw [← hf, ← hv, BitVec.ofNat_toNat, BitVec.setWidth_eq]
  simp only [List.mem_cons, Prod.mk.injEq, List.not_mem_nil, or_false] at h
  rcases h with ⟨rfl, hv⟩ | ⟨rfl, hv⟩ | ⟨rfl, hv⟩ | ⟨rfl, hv⟩ | ⟨rfl, hv⟩ | ⟨rfl, hv⟩ | ⟨rfl, hv⟩ | ⟨rfl, hv⟩ |
    ⟨rfl, hv⟩ | ⟨rfl, hv⟩ | ⟨rfl, hv⟩ | ⟨rfl, hv⟩ <;>
  exact (congrArg Host.Outcome.next (hcode hv rfl)).trans (running_eq_next hs _).symm

end Sys2Proof.Machine
end

section
/-! Proofs about the walk and the end of a frame (chapter 2). -/

namespace Sys2Proof.Machine

/-! ### One entry of the walk -/

section
variable {s : State}

theorem walkEntry_of_item {k : ItemKind} (hk : s.entry.itemKind = some k) : walkEntry s =
    if entryDue s.entry s.ctrl.frame then
      if s.ctrl.inWindow s.ctrl.position then passOver (countSkipped s) else takeDueEntry k s.entry s
    else passOver s := by
  simp only [walkEntry]
  split
  next k' hk' =>
    have hkk : k' = k := Option.some.inj (hk'.symm.trans hk)
    rw [hkk]
  next hnone => exact nomatch hnone.symm.trans hk

theorem walkEntry_of_no_item (hk : s.entry.itemKind = none) : walkEntry s =
    if decide (s.entry.kind = some .endWalk) && !s.ctrl.inWindow s.ctrl.position then
      { s with ctrl := { s.ctrl with walker := .draining } }
    else passOver s := by
  simp only [walkEntry]
  split
  next hk' => exact nomatch hk.symm.trans hk'
  next => rfl

theorem itemKind_of_kind {e : Entry} {k : EntryKind} (h : e.kind = some k) : e.itemKind = k.itemKind := by
  rw [Entry.itemKind, h]
  rfl

theorem entryDue_iff (e : Entry) (frame : Word) :
    entryDue e frame = true ↔ frame.toNat % 2 ^ e.rate.toNat = e.phase.toNat := by
  rw [entryDue, decide_eq_true_iff]

theorem passOver_eq (s : State) : passOver s = { s with ctrl := wentOn s.ctrl } := by
  rw [wentOn_eq_advance]
  rfl

/-- The runtime checks reject an entry of a lane that is not enabled, or has no ready input (R32). -/
theorem rejectReason_eq_some {c : LaneConfig} {k : ItemKind} {e : Entry} {why : RejectReason}
    (h : (why = .laneDisabled ∧ c.enable = false) ∨ (why = .readyUnavailable ∧ c.enable = true ∧ k ≠ .pause ∧
      e.waitReady = true ∧ c.ready = .disabled)) : rejectReason c k e = some why := by
  rcases h with ⟨rfl, hoff⟩ | ⟨rfl, hon, hpause, hwait, hready⟩
  · simp [rejectReason, hoff]
  · simp [rejectReason, hon, hpause, hwait, hready]

theorem rejectReason_eq_none {c : LaneConfig} {k : ItemKind} {e : Entry} (hon : c.enable = true)
    (h : k = .pause ∨ e.waitReady = false ∨ c.ready ≠ .disabled) : rejectReason c k e = none := by
  rcases h with h | h | h <;> simp [rejectReason, hon, h]

/-- A rejected entry as one record (R32, R33). -/
theorem rejectEntry_eq (k : ItemKind) (e : Entry) (why : RejectReason) (s : State) :
    rejectEntry k e why s = { s with
      ctrl := wentOn { s.ctrl with
        current := { s.ctrl.current with
          due := s.ctrl.current.due + 1, rejected := s.ctrl.current.rejected + 1 }
        window := if k = .gate then skipWindow s.ctrl.position e.skip.toNat else s.ctrl.window
        schedError := if s.ctrl.schedError = none then
          some { frame := s.ctrl.frame, index := s.ctrl.position, reason := why }
          else s.ctrl.schedError
        schedRepeat := decide (s.ctrl.schedError ≠ none) }
      events := s.events.raise srcScheduleError } := by
  rw [wentOn_eq_advance]
  by_cases hk : k = .gate <;> cases hs : s.ctrl.schedError <;>
    simp [rejectEntry, Ctrl.recordRejection, raise, hk, hs]

theorem ctrl_issued_eq (c : Ctrl) (k : ItemKind) : c.issued k =
    let d := { c with current := { c.current with due := c.current.due + 1, issued := c.current.issued + 1 } }
    if k = .gate then { d with walker := .heldGate } else wentOn d := by
  simp only [wentOn_eq_advance]
  rfl

end

theorem takeDueEntry_of_rejected {k : ItemKind} {e : Entry} {why : RejectReason} {s : State}
    (h : rejectReason (s.lanes[e.lane]).cfg k e = some why) : takeDueEntry k e s = rejectEntry k e why s := by
  simp only [takeDueEntry, h]

theorem takeDueEntry_of_room {k : ItemKind} {e : Entry} {s : State}
    (h : rejectReason (s.lanes[e.lane]).cfg k e = none) (hroom : (s.lanes[e.lane]).queue.length < 4) :
    takeDueEntry k e s = issueEntry k e s := by
  simp only [takeDueEntry, h]
  exact if_pos hroom

theorem takeDueEntry_of_full {k : ItemKind} {e : Entry} {s : State}
    (h : rejectReason (s.lanes[e.lane]).cfg k e = none) (hroom : 4 ≤ (s.lanes[e.lane]).queue.length) :
    takeDueEntry k e s = { s with ctrl := { s.ctrl with walker := .heldQueue } } := by
  simp only [takeDueEntry, h]
  exact if_neg (Nat.not_lt.2 hroom)

/-- Settles O12: each entry is taken by its kind, and the walk goes on from what that leaves. -/
theorem walkTakesEachEntry : Obligations.WalkTakesEachEntry := by
  refine ⟨fun c i => ⟨fun h => by rw [Ctrl.inWindow, h], fun w h => ?_⟩, skipWindow_fail,
    runWalk_of_not_issuing, ?_⟩
  · simp only [Ctrl.inWindow, h, Bool.and_eq_true, decide_eq_true_eq]
  rintro s e hw rfl
  rw [runWalk_step s hw]
  have hdueEntry {k : ItemKind} (hk : s.entry.itemKind = some k)
      (hdue : s.ctrl.frame.toNat % 2 ^ s.entry.rate.toNat = s.entry.phase.toNat)
      (hout : s.ctrl.inWindow s.ctrl.position = false) : walkEntry s = takeDueEntry k s.entry s := by
    rw [walkEntry_of_item hk, if_pos ((entryDue_iff _ _).2 hdue), if_neg (by simp [hout])]
  refine ⟨?passed, ?ended, ?notDue, ?skipped, ?rejected, ?held, ?issued⟩
  case passed =>
    rintro (hkind | ⟨hkind, hin⟩)
    · rw [walkEntry_of_no_item (itemKind_of_kind hkind), if_neg, passOver_eq]
      simp only [State.entry, hkind]
      simp
    · rw [walkEntry_of_no_item (itemKind_of_kind hkind), if_neg (by simp [hin]), passOver_eq]
  case ended =>
    intro hkind hout
    rw [walkEntry_of_no_item (itemKind_of_kind hkind), if_pos, runWalk_of_not_issuing _ (by simp)]
    simp only [State.entry, hkind, hout]
    simp
  case notDue =>
    intro k hk hdue
    rw [walkEntry_of_item hk, if_neg (fun h => hdue ((entryDue_iff _ _).1 h)), passOver_eq]
  case skipped =>
    intro k hk hdue hin
    rw [walkEntry_of_item hk, if_pos ((entryDue_iff _ _).2 hdue), if_pos hin, passOver_eq]
    rfl
  case rejected =>
    intro k why hk hdue hout hwhy
    rw [hdueEntry hk hdue hout, takeDueEntry_of_rejected (rejectReason_eq_some hwhy), rejectEntry_eq]
  case held =>
    intro k hk hdue hout hon hready hfull
    rw [hdueEntry hk hdue hout, takeDueEntry_of_full (rejectReason_eq_none hon hready) hfull,
      runWalk_of_not_issuing _ (by simp)]
  case issued =>
    intro k hk hdue hout hon hready hroom
    rw [hdueEntry hk hdue hout, takeDueEntry_of_room (rejectReason_eq_none hon hready) hroom, issueEntry_eq,
      ctrl_issued_eq]

/-! ### The end of a frame -/

theorem frameEndDue_iff (s : State) :
    frameEndDue s = true ↔ s.ctrl.walker = .draining ∧ ∀ n : Fin 4, (s.lanes[n]).items = [] := by
  rw [frameEndDue, Bool.and_eq_true, decide_eq_true_iff, lanesEmpty_iff]

theorem exec_frameEnd {s : State} (h : Running s) : exec .frameEnd s = .next (when frameEndDue meetFrameEnd s) :=
  running_eq_next h _

/-- Reads leave the scan controller and the timer as they are. -/
theorem takeReads_ctrl (l : List EventRead) (s : State) :
    (takeReads l s).ctrl = s.ctrl ∧ (takeReads l s).timer = s.timer :=
  takeReads_keeps (fun t => t.ctrl = s.ctrl ∧ t.timer = s.timer)
    (fun t r ht => by rw [takeRead_eq]; exact ht) l s ⟨rfl, rfl⟩

/-- A boundary that finds no commit pending swaps nothing (R16). -/
theorem selector_of_swapped {s : State} (h : s.ctrl.commitPending = false) :
    selectorAfterSwap s.ctrl = s.ctrl.active ∧ eventsAfterSwap s = s.events := by
  simp [selectorAfterSwap, eventsAfterSwap, h]

section
variable (l : List EventRead) (s : State)

/-- Entry to STOPPED that reads meet after the swap is entry to STOPPED out of what the reads leave of the swapped
state (R41, R175). -/
theorem enterStoppedMeeting_eq :
    enterStoppedMeeting (takeReads l) s = stoppedFrom (takeReads l (swapMade s)) := by
  obtain ⟨hctrl, htimer⟩ := takeReads_ctrl l (swapMade s)
  obtain ⟨hselector, hevents⟩ := selector_of_swapped (s := takeReads l (swapMade s)) (by rw [hctrl]; rfl)
  have hframe := takeReads_frame l (swapMade s)
    { (swapMade s).ctrl with
      state := .stopped, walker := .idle, stopPending := false, deferred := false, abortMark := false } s.timer.halt
  rw [stoppedFrom, hselector, hevents, hctrl, htimer]
  simp only [enterStoppedMeeting]
  rw [swapIfPending_eq]
  exact congrArg (raise srcControllerStopped) hframe

/-- A frame start that reads meet after the swap is one out of what the reads leave of the swapped state (R27,
R175). -/
theorem frameStartMeeting_eq :
    frameStartMeeting (takeReads l) s = runWalk (frameBegun (takeReads l (swapMade s))) := by
  obtain ⟨hctrl, -⟩ := takeReads_ctrl l (swapMade s)
  obtain ⟨hselector, hevents⟩ := selector_of_swapped (s := takeReads l (swapMade s)) (by rw [hctrl]; rfl)
  rw [frameBegun, hselector, hevents, hctrl]
  simp only [frameStartMeeting, swapIfPending_eq]
  rw [hctrl]
  rfl

/-- The scan controller is no concern of the reads. -/
theorem takeReads_withCtrl (c : Ctrl) : takeReads l { s with ctrl := c } = { takeReads l s with ctrl := c } := by
  refine (takeReads_frame l s c s.timer).trans ?_
  rw [← (takeReads_ctrl l s).2]

/-- A frame start that finds no trigger deferred is the frame start, and deferred is clear. -/
theorem frameBegun_undeferred :
    frameBegun (takeReads l (swapMade { s with ctrl := { s.ctrl with deferred := false } })) =
      { frameBegun (takeReads l (swapMade s)) with
        ctrl := { (frameBegun (takeReads l (swapMade s))).ctrl with deferred := false } } := by
  have h : takeReads l (swapMade { s with ctrl := { s.ctrl with deferred := false } }) =
      { takeReads l (swapMade s) with ctrl := { (takeReads l (swapMade s)).ctrl with deferred := false } } := by
    rw [(takeReads_ctrl l (swapMade s)).1]
    exact takeReads_withCtrl l (swapMade s) { (swapMade s).ctrl with deferred := false }
  rw [h]
  rfl

end

section
variable {first second : State → State} {s t : State} (ht : first (reportClosed s) = t)
include ht

theorem endFrame_of_stop (h : t.ctrl.stopPending = true) :
    endFrame first second s = enterStoppedMeeting second t := by
  subst ht
  exact if_pos h

theorem endFrame_of_deferred (h : t.ctrl.stopPending = false) (hd : t.ctrl.deferred = true) :
    endFrame first second s =
      frameStartMeeting second { t with ctrl := { t.ctrl with deferred := false } } := by
  subst ht
  exact (if_neg (Bool.eq_false_iff.1 h)).trans (if_pos hd)

theorem endFrame_of_waiting (h : t.ctrl.stopPending = false) (hd : t.ctrl.deferred = false) :
    endFrame first second s = second { t with ctrl := { t.ctrl with state := .waiting, walker := .idle } } := by
  subst ht
  exact (if_neg (Bool.eq_false_iff.1 h)).trans (if_neg (Bool.eq_false_iff.1 hd))

end

/-- Settles O13: the report is closed, and then the controller's flags decide what follows, the reads falling behind
FRAME_END and behind the swap. -/
theorem frameEnd : Obligations.FrameEnd := by
  refine ⟨fun s => ⟨fun hs => running_eq_next hs _, rfl, rfl, fun hs hnot => ?_⟩, ?_⟩
  · rw [exec_frameEnd hs, when, if_neg]
    rw [frameEndDue_iff]
    rintro ⟨hw, hitems⟩
    rcases hnot with hnot | ⟨n, hn⟩
    · exact hnot hw
    · exact hn (hitems n)
  · rintro s closed a met hs hw hitems rfl rfl rfl
    rw [exec_frameEnd hs, when, if_pos ((frameEndDue_iff s).2 ⟨hw, hitems⟩)]
    obtain ⟨hctrl, -⟩ := takeReads_ctrl (nextMeeting s).afterFrameEnd (reportClosed (takeMeeting s))
    have hstop : (takeReads (nextMeeting s).afterFrameEnd (reportClosed (takeMeeting s))).ctrl.stopPending =
        s.ctrl.stopPending := by rw [hctrl]; rfl
    have hdeferred : (takeReads (nextMeeting s).afterFrameEnd (reportClosed (takeMeeting s))).ctrl.deferred =
        s.ctrl.deferred := by rw [hctrl]; rfl
    refine ⟨fun hor b hb => ⟨fun hp => ?_, fun hp => ?_⟩, fun hp hd b hb => ?_⟩
    · rw [meetFrameEnd, endFrame_of_stop rfl (hstop.trans hp), enterStoppedMeeting_eq, hb]
      rfl
    · have hd := hor.resolve_left (by simp [hp])
      rw [meetFrameEnd, endFrame_of_deferred rfl (hstop.trans hp) (hdeferred.trans hd), frameStartMeeting_eq,
        frameBegun_undeferred, hb]
      rfl
    · rw [meetFrameEnd, endFrame_of_waiting rfl (hstop.trans hp) (hdeferred.trans hd), takeReads_withCtrl, hb,
        ← (takeReads_ctrl (nextMeeting s).afterSwap _).1]
      rfl

end Sys2Proof.Machine
end

section
/-! Proofs about the timebase (chapter 6) and the ticks that end waits and pauses. -/

namespace Sys2Proof.Machine

/-! ### The counts of a tick -/

section
variable {s : State} {n : Fin 4}

theorem takeTick_lane (s : State) (n : Fin 4) : (takeTick s).lanes[n] = (s.lanes[n]).countTick := by simp

theorem reached_of_readyWait {it : Item} {k : Nat} (h : (s.lanes[n]).phase = .readyWait it k) :
    timeoutReached n s = decide ((s.lanes[n]).cfg.readyTimeout.toNat ≤ k) ∧ pauseReached n s = false := by
  constructor <;> simp only [timeoutReached, pauseReached, h]

theorem reached_of_pausing {it : Item} {k : Nat} (h : (s.lanes[n]).phase = .pausing it k) :
    pauseReached n s = decide (it.duration.toNat ≤ k) ∧ timeoutReached n s = false := by
  constructor <;> simp only [timeoutReached, pauseReached, h]

theorem expireLane_of_readyWait (ending : Ending) {it : Item} {k : Nat}
    (h : (s.lanes[n]).phase = .readyWait it k) :
    expireLane ending n s = ending n it (.fault .readyTimeout) s := by
  simp only [expireLane, h]

theorem expireLane_of_pausing (ending : Ending) {it : Item} {k : Nat} (h : (s.lanes[n]).phase = .pausing it k) :
    expireLane ending n s = ending n it (.completed 0) s := by
  simp only [expireLane, h]

theorem countTick_of_readyWait {l : Lane} {it : Item} {k : Nat} (h : l.phase = .readyWait it k) :
    l.countTick = { l with phase := .readyWait it (k + 1) } := by
  simp [Lane.countTick, h, LanePhase.countTick]

theorem countTick_of_pausing {l : Lane} {it : Item} {k : Nat} (h : l.phase = .pausing it k) :
    l.countTick = { l with phase := .pausing it (k + 1) } := by
  simp [Lane.countTick, h, LanePhase.countTick]

/-- A lane in no wait and no pause counts no tick, and none ends there. -/
theorem countTick_of_other {l : Lane} (hr : ∀ it k, l.phase ≠ .readyWait it k) (hp : ∀ it k, l.phase ≠ .pausing it k) :
    l.countTick = l := by
  unfold Lane.countTick
  cases h : l.phase with
  | readyWait it k => exact absurd h (hr it k)
  | pausing it k => exact absurd h (hp it k)
  | _ => rw [LanePhase.countTick, ← h]

theorem reached_of_other (hr : ∀ it k, (s.lanes[n]).phase ≠ .readyWait it k)
    (hp : ∀ it k, (s.lanes[n]).phase ≠ .pausing it k) : timeoutReached n s = false ∧ pauseReached n s = false := by
  cases h : (s.lanes[n]).phase with
  | readyWait it k => exact absurd h (hr it k)
  | pausing it k => exact absurd h (hp it k)
  | _ => constructor <;> simp only [timeoutReached, pauseReached, h]

/-- A lane whose wait or pause goes on is not ended by the counts of a tick. -/
theorem reached_of_goOn (hr : ∀ it k, (s.lanes[n]).phase = .readyWait it k →
      k + 1 < (s.lanes[n]).cfg.readyTimeout.toNat)
    (hp : ∀ it k, (s.lanes[n]).phase = .pausing it k → k + 1 < it.duration.toNat) :
    timeoutReached n (takeTick s) = false ∧ pauseReached n (takeTick s) = false := by
  have hlane := takeTick_lane s n
  cases h : (s.lanes[n]).phase with
  | readyWait it k =>
    rw [countTick_of_readyWait h] at hlane
    obtain ⟨hready, hpause⟩ := reached_of_readyWait (s := takeTick s) (n := n) (by rw [hlane])
    rw [hready, hlane]
    exact ⟨decide_eq_false (Nat.not_le.2 (hr it k h)), hpause⟩
  | pausing it k =>
    rw [countTick_of_pausing h] at hlane
    obtain ⟨hpause, hready⟩ := reached_of_pausing (s := takeTick s) (n := n) (by rw [hlane])
    rw [hpause]
    exact ⟨hready, decide_eq_false (Nat.not_le.2 (hp it k h))⟩
  | disabled | idle | shifting | gap | halted =>
    rw [countTick_of_other (by simp only [h]; exact nofun) (by simp only [h]; exact nofun)] at hlane
    exact reached_of_other (by simp only [hlane, h]; exact nofun) (by simp only [hlane, h]; exact nofun)

end

theorem countTick_of_halted {t : Timebase} (h : t.counting = false) :
    t.nextTick.countTick = { t with tickLength := t.divider, tickPhase := 0 } := by
  simp [Timebase.countTick, Timebase.nextTick, h]

theorem countTick_of_counting {t : Timebase} (h : t.counting = true) (hc : t.count ≠ 0) :
    t.nextTick.countTick = { t with count := t.count - 1, tickLength := t.divider, tickPhase := 0 } := by
  rw [Timebase.countTick, if_pos (by simpa [Timebase.nextTick, h] using hc)]
  rfl

/-! ### Late counts -/

section
variable {s : State} {n : Fin 4} {it : Item} (ending : Ending)

theorem lateCount_of_readyWait (h : (s.lanes[n]).phase = .readyWait it 0) : lateCount ending s n =
    if (s.lanes[n]).cfg.readyTimeout.toNat ≤ 1 then
      ending n it (.fault .readyTimeout) (setPhase n (.readyWait it 1) s)
    else setPhase n (.readyWait it 1) s := by
  have ht : setLane n (s.lanes[n]).countTick s = setPhase n (.readyWait it 1) s := by
    rw [countTick_of_readyWait h, setPhase]
  have hphase : ((setPhase n (.readyWait it 1) s).lanes[n]).phase = .readyWait it 1 := by
    rw [setPhase_lanes_self]
  obtain ⟨hready, hpause⟩ := reached_of_readyWait hphase
  rw [lateCount, if_pos (by simp only [h, LanePhase.justEntered, decide_true])]
  simp only [ht, hready, hpause, setPhase_lanes_self, Bool.or_false, decide_eq_true_eq,
    expireLane_of_readyWait ending hphase]

theorem lateCount_of_pausing (h : (s.lanes[n]).phase = .pausing it 0) : lateCount ending s n =
    if it.duration.toNat ≤ 1 then ending n it (.completed 0) (setPhase n (.pausing it 1) s)
    else setPhase n (.pausing it 1) s := by
  have ht : setLane n (s.lanes[n]).countTick s = setPhase n (.pausing it 1) s := by
    rw [countTick_of_pausing h, setPhase]
  have hphase : ((setPhase n (.pausing it 1) s).lanes[n]).phase = .pausing it 1 := by
    rw [setPhase_lanes_self]
  obtain ⟨hpause, hready⟩ := reached_of_pausing hphase
  rw [lateCount, if_pos (by simp only [h, LanePhase.justEntered, decide_true])]
  simp only [ht, hready, hpause, Bool.false_or, decide_eq_true_eq, expireLane_of_pausing ending hphase]

theorem lateCount_of_other (hr : ∀ it, (s.lanes[n]).phase ≠ .readyWait it 0)
    (hp : ∀ it, (s.lanes[n]).phase ≠ .pausing it 0) : lateCount ending s n = s := by
  rw [lateCount, if_neg]
  cases h : (s.lanes[n]).phase with
  | readyWait it k =>
    have hk : k ≠ 0 := by
      rintro rfl
      exact hr it h
    simp [LanePhase.justEntered, hk]
  | pausing it k =>
    have hk : k ≠ 0 := by
      rintro rfl
      exact hp it h
    simp [LanePhase.justEntered, hk]
  | _ => simp [LanePhase.justEntered]

end

/-! ### The rows of a tick -/

section
variable {s : State} (hs : Running s)
include hs

theorem exec_tick : exec .tick s = .next (tickTaken s) := running_eq_next hs _

theorem exec_readyTimeout (n : Fin 4) : exec (.readyTimeout n) s =
    .next (when (fun t => timeoutReached n (takeTick t)) (tickLaneFirst n) s) := running_eq_next hs _

theorem exec_pauseExpiry (n : Fin 4) : exec (.pauseExpiry n) s =
    .next (when (fun t => pauseReached n (takeTick t)) (tickLaneFirst n) s) := running_eq_next hs _

theorem exec_timerExpiry : exec .timerExpiry s = .next (when (fun t => t.timer.expiresNext) tickTaken s) :=
  running_eq_next hs _

theorem exec_heldQueueRelease : exec .heldQueueRelease s = .next (lateStep s .release) := running_eq_next hs _

theorem exec_frameEnd_lateStep : exec .frameEnd s = .next (lateStep s .frameEnd) := running_eq_next hs _

end

theorem expiresNext_iff (t : Timebase) : t.expiresNext = true ↔ t.counting = true ∧ t.count = 1 := by
  simp [Timebase.expiresNext]

theorem InnerUpdates.running_of {reads : Prop} {s t : State} (h : InnerUpdates reads s t) (hs : Running s) :
    Running t :=
  h.keeps (P := Running) (fun _ _ hu ht => (innerUpdate_queue hu).2.trans ht) hs

/-! ### What the counts bring about -/

/-- The lanes whose waits the tick ends, said with any test that agrees with the two of the model. -/
theorem endedLanes_eq {order : List (Fin 4)} {t : State} {ended : Fin 4 → Bool}
    (h : ∀ n, ended n = (timeoutReached n t || pauseReached n t)) :
    endedLanes order t = (tickOrder order).filter ended := by
  rw [endedLanes, funext h]

section
variable {s first released once closed : State}

/-- What comes before a trigger of the same moment, as its rows take it (R26, R35). -/
theorem frameEndFirst_eq {due : State → Prop} (hs : Running first)
    (hdue : ∀ u, due u ↔ u.ctrl.walker = .draining ∧ ∀ m : Fin 4, (u.lanes[m]).items = [])
    (hreleased : exec .heldQueueRelease first = .next released)
    (honce : due released → exec .frameEnd released = .next once)
    (hnot : ¬ due released → closed = first)
    (hagain : due released → due once → (∃ m rest, released.meetings = m :: rest ∧ m.endsAgain = true) →
      exec .frameEnd once = .next closed)
    (hend : due released → ¬ due once ∨ (∀ m rest, released.meetings = m :: rest → m.endsAgain = false) →
      closed = once) : frameEndFirst first = closed := by
  have hdue' (u : State) : frameEndDue u = true ↔ due u := (frameEndDue_iff u).trans (hdue u).symm
  rw [exec_heldQueueRelease hs] at hreleased
  have hrel : when (fun u => decide (u.ctrl.walker = .heldQueue)) takeAndRelease first = released :=
    Host.Outcome.next.inj hreleased
  have hrun : Running released := by
    rw [← hrel]
    exact ((takeAndRelease_inner (reads := True)).when _ first).running_of hs
  simp only [frameEndFirst, hrel]
  by_cases hd : due released
  · rw [if_pos ((hdue' _).2 hd)]
    have hmet : meetFrameEnd released = once := by
      have := honce hd
      rw [exec_frameEnd hrun, when, if_pos ((hdue' _).2 hd)] at this
      exact Host.Outcome.next.inj this
    have hrun' : Running once := by
      rw [← hmet]
      exact (meetFrameEnd_inner (readsOnlyIf_true released)).running_of hrun
    simp only [frameEndsBefore, hmet]
    cases hm : released.meetings with
    | nil =>
      rw [hend hd (.inr fun m rest h => nomatch hm.symm.trans h)]
      exact if_neg (by simp [nextMeeting, hm, Meeting.nothing])
    | cons m rest =>
      have hnext : nextMeeting released = m := by rw [nextMeeting, hm]; rfl
      rw [hnext]
      cases ha : m.endsAgain with
      | false =>
        rw [hend hd (.inr fun m' rest' h => by
          cases hm.symm.trans h
          exact ha)]
        exact if_neg nofun
      | true =>
        rw [if_pos rfl]
        by_cases hd' : due once
        · have := hagain hd hd' ⟨m, rest, hm, ha⟩
          rw [exec_frameEnd hrun'] at this
          exact Host.Outcome.next.inj this
        · rw [hend hd (.inl hd'), when, if_neg fun h => hd' ((hdue' _).1 h)]
  · rw [if_neg fun h => hd ((hdue' _).1 h), hnot hd]

end

/-- The ends of the lanes' waits are updates of events. -/
theorem expireLanes_inner {reads : Prop} {ending : Ending} (hending : ∀ n it o, Inner reads (ending n it o))
    (ns : List (Fin 4)) : Inner reads (expireLanes ending ns) := fun s =>
  expireLanes_keeps (InnerUpdates reads s) ending (fun n it o t ht => ht.trans (hending n it o t)) ns s .refl

section
variable {s : State} {ended : Fin 4 → Bool} {expires : Prop}
  (hended : ∀ n, ended n = (timeoutReached n (takeTick (takeMeeting s)) || pauseReached n (takeTick (takeMeeting s))))
  (hx : s.timer.expiresNext = true ↔ expires)
include hended hx

/-- A tick with the timer first, with the tests of a lane's end and of an expiry said in any way (R117). -/
theorem tickTimerFirst_eq {expired : State}
    (hexpired : expires → expired = { takeTrigger (takeTick (takeMeeting s)) with
      timer := (takeTrigger (takeTick (takeMeeting s))).timer.afterExpiry })
    (hstays : ¬ expires → expired = takeTick (takeMeeting s)) :
    tickTimerFirst finishItem s = ((tickOrder (nextMeeting s).order).filter ended).foldl
      (fun u n => expireLane finishItem n u) expired := by
  have hexp : expireTimerIf s.timer.expiresNext (takeTick (takeMeeting s)) = expired := by
    by_cases he : expires
    · rw [hx.2 he, hexpired he]
      rfl
    · rw [Bool.eq_false_iff.2 fun h => he (hx.1 h), hstays he]
      rfl
  simp only [tickTimerFirst, hexp, endedLanes_eq hended, expireLanes]

/-- A tick with lane `n` first, up to what follows the trigger, with those tests said in any way (R118). -/
theorem tickLaneFirst_eq (n : Fin 4) {acted first closed last : State}
    (hacted : expires → acted = actAtExpiry (takeTick (takeMeeting s)))
    (hnot : ¬ expires → acted = takeTick (takeMeeting s))
    (hfirst : first = (nextMeeting s).late.foldl lateStep
      ((n :: (tickOrder (nextMeeting s).order).filter fun m => ended m && decide (m ≠ n)).foldl
        (fun u m => expireLane finishItem m u) acted))
    (hclosed : expires → frameEndFirst first = closed)
    (hlast : expires → last = (nextMeeting s).lateAfter.foldl lateStep (takeTrigger closed))
    (hsame : ¬ expires → last = first) : tickLaneFirst n s = last := by
  have hlanes : ((endedLanes (nextMeeting s).order (takeTick (takeMeeting s))).filter fun k => decide (k ≠ n)) =
      (tickOrder (nextMeeting s).order).filter fun m => ended m && decide (m ≠ n) := by
    rw [endedLanes_eq hended, List.filter_filter]
    exact List.filter_congr fun m _ => Bool.and_comm ..
  simp only [tickLaneFirst, hlanes]
  by_cases he : expires
  · rw [if_pos (hx.2 he), hlast he, ← hclosed he, hfirst, hacted he]
    rfl
  · rw [if_neg fun h => he (hx.1 h), hsame he, hfirst, hnot he]
    rfl

end

/-- Settles O14: the counts lane by lane, then what they bring about, in the order of the row. -/
theorem tick : Obligations.Tick := by
  refine ⟨?counts, fun order => ⟨mem_tickOrder order, tickOrder_nodup order, tickOrder_prefix order⟩, ?late,
    fun s => ⟨fun n => rfl, fun hs => ⟨exec_heldQueueRelease hs, exec_frameEnd_lateStep hs⟩⟩,
    fun n it o s hs h => by rw [exec_gapEnd hs, endGap_of_gap finishItem h], ?rows⟩
  case counts =>
    rintro s t rfl
    refine ⟨rfl, countTick_of_halted, countTick_of_counting, fun n => ⟨fun it k h => ?_, fun it k h => ?_,
      fun hr hp => ?_⟩⟩
    · have hlane := (takeTick_lane s n).trans (countTick_of_readyWait h)
      have hphase : ((takeTick s).lanes[n]).phase = .readyWait it (k + 1) := by rw [hlane]
      obtain ⟨hready, hpause⟩ := reached_of_readyWait hphase
      refine ⟨hlane, ?_, hpause, expireLane_of_readyWait finishItem hphase⟩
      rw [hready, hlane, decide_eq_true_iff]
    · have hlane := (takeTick_lane s n).trans (countTick_of_pausing h)
      have hphase : ((takeTick s).lanes[n]).phase = .pausing it (k + 1) := by rw [hlane]
      obtain ⟨hpause, hready⟩ := reached_of_pausing hphase
      refine ⟨hlane, ?_, hready, expireLane_of_pausing finishItem hphase⟩
      rw [hpause, decide_eq_true_iff]
    · have hlane := (takeTick_lane s n).trans (countTick_of_other hr hp)
      exact ⟨hlane, reached_of_other (by rw [hlane]; exact hr) (by rw [hlane]; exact hp)⟩
  case late =>
    rintro s n l ending rfl
    refine ⟨fun it t h ht => ?_, fun it t h ht => ?_, lateCount_of_other ending⟩
    · subst ht
      exact ⟨fun hk => (lateCount_of_readyWait ending h).trans (if_neg (Nat.not_le.2 hk)),
        fun hk => (lateCount_of_readyWait ending h).trans (if_pos hk)⟩
    · subst ht
      exact ⟨fun hk => (lateCount_of_pausing ending h).trans (if_neg (Nat.not_le.2 hk)),
        fun hk => (lateCount_of_pausing ending h).trans (if_pos hk)⟩
  case rows =>
    rintro s t acted met ended expires due hs rfl rfl hdue hended hexpires hacted hnot
    have hx : s.timer.expiresNext = true ↔ expires := (expiresNext_iff _).trans hexpires.symm
    refine ⟨fun expired hexpired hstays => ?_, fun n first released once closed last hfirst hreleased honce hclosed
      hagain hend hlast hsame => ?_⟩
    · have hticked := tickTimerFirst_eq hended hx hexpired hstays
      rw [exec_tick hs, tickTaken, hticked]
      rfl
    · have hrun : Running first := by
        have hacts : InnerUpdates True s acted := by
          have hcounts : InnerUpdates True s (takeTick (takeMeeting s)) := takeTick_inner.comp takeMeeting_inner s
          by_cases he : expires
          · rw [hacted he]
            exact hcounts.trans (actAtExpiry_inner _)
          · rw [hnot he]
            exact hcounts
        have hlanes : InnerUpdates True s (expireLanes finishItem (n :: (tickOrder (nextMeeting s).order).filter
            fun m => ended m && decide (m ≠ n)) acted) := hacts.trans (expireLanes_inner finishItem_inner _ _)
        rw [hfirst]
        exact (foldl_keeps (InnerUpdates True s) lateStep _
          (fun _ x _ ht => ht.lateStep (readsOnlyIf_true s) x) _ hlanes).running_of hs
      have hrow : tickLaneFirst n s = last := tickLaneFirst_eq hended hx n hacted hnot hfirst
        (fun _ => frameEndFirst_eq hrun hdue hreleased honce hclosed hagain hend) hlast hsame
      have hreached : timeoutReached n (takeTick { s with meetings := s.meetings.tail }) =
          timeoutReached n (takeTick s) ∧
        pauseReached n (takeTick { s with meetings := s.meetings.tail }) = pauseReached n (takeTick s) := ⟨rfl, rfl⟩
      rw [hreached.1, hreached.2, exec_readyTimeout hs, exec_pauseExpiry hs, ← hrow]
      refine ⟨fun h => ?_, fun h => ?_, fun h => ?_, fun h => ?_⟩ <;> simp [when, h]

/-! ### The timer's expiry -/

/-- A tick that ends no lane's wait ends none in any order. -/
theorem endedLanes_of_goOn {s : State} (h : WaitsGoOn (fun _ => False) s) (order : List (Fin 4)) :
    endedLanes order (takeTick s) = [] := by
  rw [endedLanes, List.filter_eq_nil_iff]
  intro n _
  obtain ⟨hr, hp⟩ := h n id
  obtain ⟨hready, hpause⟩ := reached_of_goOn hr hp
  simp [hready, hpause]

/-- Settles O15: the row is the tick of an expiring timer; with no wait ended, the trigger and the action. -/
theorem timerExpiry : Obligations.TimerExpiry := by
  refine fun s hs => ⟨fun hc h1 => ?_, fun h => ?_⟩
  · have hx : s.timer.expiresNext = true := expiresNext_eq_true hc h1
    have hrow : exec .timerExpiry s = exec .tick s := by
      rw [exec_timerExpiry hs, exec_tick hs, when, if_pos hx]
    refine ⟨hrow, fun hgo t late ht hlate => ?_⟩
    have hlanes : endedLanes (nextMeeting s).order (takeTick (takeMeeting s)) = [] :=
      endedLanes_of_goOn (s := takeMeeting s) hgo _
    have htimer : (takeTrigger t).timer = { s.timer with
        count := s.timer.count - 1, tickLength := s.timer.divider, tickPhase := 0 } := by
      rw [takeTrigger_timer, ht]
      exact countTick_of_counting hc (by rw [h1]; exact nofun)
    have htaken : exec .timerExpiry s = .next (late.foldl lateStep { takeTrigger t with
        timer := (takeTrigger t).timer.afterExpiry }) := by
      rw [hrow, exec_tick hs, tickTaken, tickTimerFirst]
      simp only [hlanes, hx, ht, hlate]
      rfl
    rw [htaken, htimer]
    refine ⟨fun hm => ?_, fun hm => ?_⟩
    · simp only [Timebase.afterExpiry, hm]
    · simp only [Timebase.afterExpiry, hm]
  · rw [exec_timerExpiry hs, when, if_neg (Bool.eq_false_iff.1 (expiresNext_eq_false h))]

/-! ### FTRIG and the registers of the timer -/

theorem takeTrigger_of_stopped {s : State} (h : s.ctrl.state = .stopped) : takeTrigger s = s := by
  simp [takeTrigger, h]

/-- Settles O16: a sample is a selected edge where it leaves the level kept for the one that the edge setting names. -/
theorem ftrigEdge : Obligations.FtrigEdge := by
  rintro level s hs kept rfl
  have hexec : exec (.ftrigEdge level) s = .next (sampleFtrig level s) := running_eq_next hs _
  rw [hexec, sampleFtrig]
  refine ⟨fun hm hf hl => ?_, fun h => ?_, fun hst => ?_⟩
  · have hedge : selectedEdge s.timer level = true := by
      rw [selectedEdge, hf, hl]
      simp
    simp [hm, hedge]
  · rw [if_neg]
    rcases h with h | h | h <;> simp [selectedEdge, h]
  · split
    · exact congrArg _ (takeTrigger_of_stopped hst)
    · rfl

theorem timerModeOfCode_code (m : TimerMode) : timerModeOfCode m.code = m := by cases m <;> rfl

theorem timerModeOfCode_field {v : Word} {m : TimerMode} (h : v.toNat % 4 = m.code.toNat) :
    timerModeOfCode (field v 0 2) = m := by
  have hcode : field v 0 2 = m.code := by
    apply BitVec.eq_of_toNat_eq
    rw [field_toNat]
    simpa using h
  rw [hcode, timerModeOfCode_code]

/-- Settles O17: each register's write by its ranges and states. -/
theorem timerRegisters : Obligations.TimerRegisters := by
  intro v s hs
  have hdiv : exec (.timerDivWrite v) s = .next (writeTimerDiv v s) := running_eq_next hs _
  have hperiod : exec (.timerPeriodWrite v) s = .next { s with timer := s.timer.writePeriod v } := running_eq_next hs _
  have hmode : exec (.timerModeWrite v) s = .next (writeTimerMode v s) := running_eq_next hs _
  rw [hdiv, hperiod, hmode]
  refine ⟨fun hlow hhigh => ?_, fun hout => ?_, fun hc => ?_, fun hc hv => ?_, fun hc hv => ?_, fun m hm => ?_⟩
  · rw [writeTimerDiv, if_pos ⟨hlow, hhigh⟩]
  · rw [writeTimerDiv, if_neg (by omega)]
  · rw [Timebase.writePeriod, if_neg (by simp [hc])]
  · rw [Timebase.writePeriod, if_pos hc, if_neg hv]
  · rw [Timebase.writePeriod, if_pos hc, if_pos hv, hv]
  · have hfield := timerModeOfCode_field hm
    simp only [writeTimerMode, hfield]
    refine ⟨fun hst => ?_, fun hst hsame hedge => ?_, fun hst hne => ?_⟩
    · rw [if_pos (.inl hst)]
    · rw [if_pos (.inr ⟨hsame, hedge⟩), hsame, hedge]
    · rw [if_neg]
      rintro (h | ⟨h1, h2⟩)
      · exact hst h
      · exact hne.elim (fun h => h h1) (fun h => h h2)

end Sys2Proof.Machine
end

section
/-! Proofs about items that end (3.4 to 3.6): what a completion leaves, and which step ends which item. -/

namespace Sys2Proof.Machine

/-! ### Completions and lanes do not meet -/

section
variable (s : State) (ls : Vector Lane 4) (c : Ctrl)

theorem postAlert_withLanes (kind : AlertKind) (i : Fin 64) (q : Word) (v : Value) :
    postAlert kind i q v { s with lanes := ls } = { postAlert kind i q v s with lanes := ls } := by
  simp only [postAlert]
  split <;> rfl

theorem postIfEnabled_withLanes (kind : AlertKind) (i : Fin 64) (q : Word) (v : Value) :
    postIfEnabled kind i q v { s with lanes := ls } = { postIfEnabled kind i q v s with lanes := ls } := by
  simp only [postIfEnabled]
  split
  · exact postAlert_withLanes s ls kind i q v
  · rfl

theorem sampleTake_withLanes (it : Item) (o : ItemOutcome) :
    sampleTake it o { s with lanes := ls } = { sampleTake it o s with lanes := ls } := by
  cases o with
  | completed r =>
    simp only [sampleTake, storeSample]
    rw [← postIfEnabled_withLanes]
    split <;> rfl
  | fault f =>
    simp only [sampleTake, faultSample]
    rw [← postIfEnabled_withLanes]
    rfl
  | skipped | aborted => rfl

theorem complete_withLanes (n : Fin 4) (it : Item) (o : ItemOutcome) :
    complete n it o { s with lanes := ls } = { complete n it o s with lanes := ls } := by
  have hbefore : beforeCtrl n it o { s with lanes := ls } = { beforeCtrl n it o s with lanes := ls } := by
    simp only [beforeCtrl, sampleTake_withLanes]
    split <;> cases o <;> rfl
  rw [complete_eq, hbefore]
  rfl

end

/-! ### The end of an item as one record -/

section
variable {s : State} {n : Fin 4} {it : Item} {o : ItemOutcome}

/-- The end of an item: its completion, the lane's new content, and what the lane skips (R54, R66, R67). -/
theorem settleItem_eq (n : Fin 4) (it : Item) (o : ItemOutcome) (s : State) :
    settleItem n it o s = completeAll n .skipped ((s.lanes[n]).ended o).skipped { complete n it o s with
      lanes := s.lanes.set n.val ((s.lanes[n]).ended o).settled n.isLt } := by
  have hlane : (setLane n ((s.lanes[n]).ended o) (complete n it o s)).lanes[n] = (s.lanes[n]).ended o := by simp
  have hended : settleItem n it o s = settleLane n (setLane n ((s.lanes[n]).ended o) (complete n it o s)) := by
    simp only [settleItem, Lane.ended, complete_lanes]
  rw [hended, settleLane_eq, hlane]
  simp only [setLane, complete_lanes, Vector.set_set]

/-- The phase in which the item was is of no effect. -/
theorem settleItem_setPhase (n : Fin 4) (it : Item) (o : ItemOutcome) (p : LanePhase) (s : State) :
    settleItem n it o (setPhase n p s) = settleItem n it o s := by
  have hlane : ((setPhase n p s).lanes[n]).ended o = (s.lanes[n]).ended o := by
    rw [setPhase_lanes_self]
    rfl
  rw [settleItem_eq, settleItem_eq, hlane, setPhase_lanes, Vector.set_set]
  have hcomplete : complete n it o (setPhase n p s) = { complete n it o s with lanes := (setPhase n p s).lanes } :=
    complete_withLanes s _ n it o
  rw [hcomplete]

/-! ### Which step ends which item -/

/-- A list without repetitions in which only `n` passes a test holds it alone after the filter. -/
theorem filter_eq_singleton {l : List (Fin 4)} {p : Fin 4 → Bool} (hl : l.Nodup) (hn : n ∈ l)
    (hp : ∀ m, p m = true ↔ m = n) : l.filter p = [n] := by
  have htest : p = (· == n) := funext fun m => Bool.eq_iff_iff.2 ((hp m).trans beq_iff_eq.symm)
  rw [htest, List.filter_beq, List.count_eq_one_of_mem hl hn]
  rfl

/-- A lane whose wait or pause the next tick ends. -/
def EndsNext (n : Fin 4) (s : State) (it : Item) (o : ItemOutcome) : Prop :=
  (∃ k, (s.lanes[n]).phase = .readyWait it k ∧ (s.lanes[n]).cfg.readyTimeout.toNat ≤ k + 1 ∧
    o = .fault .readyTimeout) ∨
  ∃ k, (s.lanes[n]).phase = .pausing it k ∧ it.duration.toNat ≤ k + 1 ∧ o = .completed 0

/-- The counts bring such a lane to its end. -/
theorem EndsNext.reached (h : EndsNext n s it o) :
    (timeoutReached n (takeTick s) || pauseReached n (takeTick s)) = true := by
  have hlane := takeTick_lane s n
  rcases h with ⟨k, hphase, hk, -⟩ | ⟨k, hphase, hk, -⟩
  · rw [countTick_of_readyWait hphase] at hlane
    rw [(reached_of_readyWait (s := takeTick s) (n := n) (by rw [hlane])).1, hlane, decide_eq_true hk, Bool.true_or]
  · rw [countTick_of_pausing hphase] at hlane
    rw [(reached_of_pausing (s := takeTick s) (n := n) (by rw [hlane])).1, decide_eq_true hk, Bool.or_true]

/-- The end is that of its item with its outcome. -/
theorem EndsNext.expireLane (h : EndsNext n s it o) (ending : Ending) :
    expireLane ending n (takeTick s) = ending n it o (takeTick s) := by
  have hlane := takeTick_lane s n
  rcases h with ⟨k, hphase, -, rfl⟩ | ⟨k, hphase, -, rfl⟩
  · rw [countTick_of_readyWait hphase] at hlane
    exact expireLane_of_readyWait ending (by rw [hlane])
  · rw [countTick_of_pausing hphase] at hlane
    exact expireLane_of_pausing ending (by rw [hlane])

theorem TickEndsOnly.expiresNext {only : Fin 4 → Prop} (h : TickEndsOnly only s) : s.timer.expiresNext = false :=
  Bool.eq_false_iff.2 fun hx => by
    obtain ⟨hc, h1⟩ := (expiresNext_iff _).1 hx
    exact h.1 hc h1

/-- The tick that ends the item of one lane, and nothing else, ends that lane in any order. -/
theorem endedLanes_of_endsNext (h : EndsNext n s it o) (honly : TickEndsOnly (· = n) s) (order : List (Fin 4)) :
    endedLanes order (takeTick s) = [n] :=
  filter_eq_singleton (tickOrder_nodup order) (mem_tickOrder order n) fun m => by
    refine ⟨fun hm => ?_, fun hm => hm ▸ h.reached⟩
    by_contra hne
    obtain ⟨hready, hpause⟩ := honly.2 m hne
    obtain ⟨h1, h2⟩ := reached_of_goOn hready hpause
    simp [h1, h2] at hm

theorem tickTimerFirst_of_endsNext (h : EndsNext n s it o) (honly : TickEndsOnly (· = n) s) (ending : Ending) :
    tickTimerFirst ending s = ending n it o (takeTick (takeMeeting s)) := by
  have hlanes : endedLanes (nextMeeting s).order (takeTick (takeMeeting s)) = [n] :=
    endedLanes_of_endsNext (s := takeMeeting s) h honly _
  simp only [tickTimerFirst, hlanes, honly.expiresNext]
  exact EndsNext.expireLane (s := takeMeeting s) h ending

theorem tickLaneFirst_of_endsNext (h : EndsNext n s it o) (honly : TickEndsOnly (· = n) s) :
    tickLaneFirst n s =
      (nextMeeting s).late.foldl lateStep (finishItem n it o (takeTick (takeMeeting s))) := by
  have hlanes : endedLanes (nextMeeting s).order (takeTick (takeMeeting s)) = [n] :=
    endedLanes_of_endsNext (s := takeMeeting s) h honly _
  rw [tickLaneFirst_no_expiry n s honly.expiresNext, hlanes]
  have hend := EndsNext.expireLane (s := takeMeeting s) h finishItem
  simp only [decide_not, List.filter_cons, decide_true, Bool.not_true, Bool.false_eq_true, if_false, List.filter_nil,
    expireLanes, List.foldl_cons, List.foldl_nil, hend]

variable {c : Instr} {u : State} {late : List LateStep}

/-- The rows that end an item are these: the lane's own event, or the last tick of its wait (R57, R61, R62, R63). -/
theorem EndsWith.cases (h : EndsWith n s it o c u late) :
    (u = s ∧ late = [] ∧ ((s.lanes[n]).phase = .gap it o ∧ c = .gapEnd n ∨
      ∃ din, (s.lanes[n]).phase = .shifting it ∧ (s.lanes[n]).cfg.gap = 0 ∧
        o = shiftOutcome (s.lanes[n]).cfg it din ∧ c = .shiftEnd n din)) ∨
    (u = takeTick (takeMeeting s) ∧ late = (nextMeeting s).late ∧ EndsNext n s it o ∧ TickEndsOnly (· = n) s ∧
      (c = .tick ∨ c = .readyTimeout n ∧ timeoutReached n (takeTick s) = true ∨
        c = .pauseExpiry n ∧ pauseReached n (takeTick s) = true)) := by
  rcases h with ⟨hp, hc, hu, hl⟩ | ⟨din, hp, hg, ho, hc, hu, hl⟩ | ⟨k, hp, hk, ho, hc, honly, hu, hl⟩ |
    ⟨k, hp, hk, ho, hc, honly, hu, hl⟩
  · exact .inl ⟨hu, hl, .inl ⟨hp, hc⟩⟩
  · exact .inl ⟨hu, hl, .inr ⟨din, hp, hg, ho, hc⟩⟩
  · have hlane := (takeTick_lane s n).trans (countTick_of_readyWait hp)
    have hreached : timeoutReached n (takeTick s) = true := by
      rw [(reached_of_readyWait (s := takeTick s) (n := n) (by rw [hlane])).1, hlane, decide_eq_true hk]
    exact .inr ⟨hu, hl, .inl ⟨k, hp, hk, ho⟩, honly, hc.elim (fun h => .inr (.inl ⟨h, hreached⟩)) .inl⟩
  · have hlane := (takeTick_lane s n).trans (countTick_of_pausing hp)
    have hreached : pauseReached n (takeTick s) = true := by
      rw [(reached_of_pausing (s := takeTick s) (n := n) (by rw [hlane])).1, decide_eq_true hk]
    exact .inr ⟨hu, hl, .inr ⟨k, hp, hk, ho⟩, honly, hc.elim (fun h => .inr (.inr ⟨h, hreached⟩)) .inl⟩

/-- Such a row ends the item in the state its counts leave, the released walker walks on, and then comes what
follows in the row's moment. -/
theorem EndsWith.exec_eq (h : EndsWith n s it o c u late) (hs : Running s) :
    exec c s = .next (late.foldl lateStep (runWalk (settleItem n it o u))) := by
  rcases h.cases with ⟨rfl, rfl, ⟨hp, rfl⟩ | ⟨din, hp, hg, rfl, rfl⟩⟩ | ⟨rfl, rfl, hnext, honly, hc⟩
  · rw [exec_gapEnd hs, endGap_of_gap _ hp]
    rfl
  · rw [exec_shiftEnd hs, endShifting_of_shifting _ hp, ← settleItem_setPhase n it _ (.gap it
      (shiftOutcome (u.lanes[n]).cfg it din)) u]
    exact congrArg _ (if_pos hg)
  · have hlane := tickLaneFirst_of_endsNext hnext honly
    rcases hc with rfl | ⟨rfl, hreached⟩ | ⟨rfl, hreached⟩
    · rw [exec_tick hs, tickTaken, tickTimerFirst_of_endsNext hnext honly]
      rfl
    · rw [exec_readyTimeout hs, when, if_pos hreached, hlane]
      rfl
    · rw [exec_pauseExpiry hs, when, if_pos hreached, hlane]
      rfl

/-- The counts of such a row leave the lane but for its phase, and nothing of the other blocks that the item's end
reads. -/
theorem EndsWith.left (h : EndsWith n s it o c u late) :
    (∃ p, u.lanes[n] = { s.lanes[n] with phase := p }) ∧ u.ctrl = s.ctrl ∧ u.events = s.events ∧
      activeBank u = activeBank s := by
  rcases h.cases with ⟨rfl, -⟩ | ⟨rfl, -⟩
  · exact ⟨⟨_, rfl⟩, rfl, rfl, rfl⟩
  · exact ⟨⟨_, takeTick_lane (takeMeeting s) n⟩, rfl, rfl, rfl⟩

theorem EndsWith.ended (h : EndsWith n s it o c u late) (o' : ItemOutcome) :
    (u.lanes[n]).ended o' = (s.lanes[n]).ended o' := by
  obtain ⟨⟨p, hp⟩, -⟩ := h.left
  rw [hp]
  rfl

/-- A completion that is no gate's, or finds no walker holding for one, counts its outcome (R39). -/
theorem complete_ctrl (n : Fin 4) (h : s.ctrl.walker ≠ .heldGate ∨ it.kind ≠ .gate) (o : ItemOutcome) :
    (complete n it o s).ctrl = { s.ctrl with current := s.ctrl.current.countOutcome o } := by
  have hctrl := (beforeCtrl_still s n it o).2.1
  rw [complete_eq, ctrlTake_counts it o _ (by rwa [hctrl]), hctrl]

end

/-- The lane whose item has ended without a halt is IDLE, or has taken its head (R54, R55, R62). -/
theorem ended_of_no_halt {l : Lane} {o : ItemOutcome}
    (h : (∃ r, o = .completed r) ∨ ∃ f, o = .fault f ∧ l.cfg.haltOnFault = false) :
    l.ended o = { l with phase := .idle } := by
  rcases h with ⟨r, rfl⟩ | ⟨f, rfl, hoff⟩
  · rfl
  · simp [Lane.ended, phaseAfter, hoff]

theorem beginItem_eq (c : LaneConfig) (it : Item) : beginItem c it =
    if it.kind = .pause then .pausing it 0
    else if it.waitReady = true ∧ c.loopback = false then .readyWait it 0
    else .shifting it := by
  cases hk : it.kind <;> simp [beginItem, hk]

theorem settled_of_idle {l : Lane} (hp : l.phase = .idle) (hq : l.queue = []) : l.settled = l := by
  simp [Lane.settled, Lane.takeHead, hp, hq]

theorem settled_of_idle_cons {l : Lane} {it : Item} {rest : List Item} (hp : l.phase = .idle)
    (hq : l.queue = it :: rest) : l.settled = { l with phase := beginItem l.cfg it, queue := rest } := by
  simp [Lane.settled, Lane.takeHead, hp, hq]

theorem skipped_of_ne_halted {l : Lane} (hp : l.phase ≠ .halted) : l.skipped = [] := by
  unfold Lane.skipped
  split
  next h => exact absurd h hp
  next => rfl

/-- Settles O21: the walker rests behind the completion of an item that is no gate, so the lane's next item is all
that follows. -/
theorem itemEnds : Obligations.ItemEnds := by
  intro n s u it o c late hs hrest h hkind hgoesOn
  obtain ⟨-, hctrl, -, -⟩ := h.left
  have hended : (u.lanes[n]).ended o = { s.lanes[n] with phase := .idle } :=
    (h.ended o).trans (ended_of_no_halt hgoesOn)
  have hsettled : settleItem n it o u = { complete n it o u with
      lanes := u.lanes.set n.val ({ s.lanes[n] with phase := .idle } : Lane).settled n.isLt } := by
    rw [settleItem_eq, hended, skipped_of_ne_halted (by simp), completeAll_nil]
  have hwalker : (settleItem n it o u).ctrl.walker ≠ .issuing := by
    rw [hsettled]
    show (complete n it o u).ctrl.walker ≠ .issuing
    rw [complete_ctrl n (.inr hkind), hctrl]
    exact hrest
  rw [h.exec_eq hs, runWalk_of_not_issuing _ hwalker, hsettled]
  refine ⟨fun hq => ?_, fun next rest hq => ?_⟩
  · rw [settled_of_idle (l := { s.lanes[n] with phase := .idle }) rfl hq]
  · rw [settled_of_idle_cons (l := { s.lanes[n] with phase := .idle }) rfl hq, beginItem_eq]

/-! ### Items that complete together -/

section
variable {s : State} {n : Fin 4}

/-- Items that complete SKIPPED or ABORTED, none of them a gate that the walker holds for, are counted and touch
nothing else (R67, R70, R83). -/
theorem completeAll_counts {o : ItemOutcome} (ho : o = .skipped ∨ o = .aborted) {l : List Item}
    (h : s.ctrl.walker ≠ .heldGate ∨ ∀ x ∈ l, x.kind ≠ .gate) : completeAll n o l s = { s with
      ctrl := { s.ctrl with current := l.foldl (fun r _ => r.countOutcome o) s.ctrl.current } } := by
  induction l generalizing s with
  | nil => rfl
  | cons it l ih =>
    have hit : s.ctrl.walker ≠ .heldGate ∨ it.kind ≠ .gate := h.imp id fun h => h it (by simp)
    rw [completeAll_cons, complete_quiet _ _ _ _ ho, ctrlTake_counts it o s hit]
    exact ih (h.imp id fun h x hx => h x (by simp [hx]))

theorem foldl_skipped (l : List Item) (r : FrameReport) :
    l.foldl (fun r _ => r.countOutcome .skipped) r = { r with laneSkipped := r.laneSkipped + l.length } := by
  induction l generalizing r with
  | nil => rfl
  | cons it l ih =>
    rw [List.foldl_cons, ih, List.length_cons]
    simp only [FrameReport.countOutcome]
    congr 1
    omega

theorem foldl_aborted (l : List Item) (r : FrameReport) :
    l.foldl (fun r _ => r.countOutcome .aborted) r = { r with aborted := r.aborted + l.length } := by
  induction l generalizing r with
  | nil => rfl
  | cons it l ih =>
    rw [List.foldl_cons, ih, List.length_cons]
    simp only [FrameReport.countOutcome]
    congr 1
    omega

/-! ### The gate that the walker holds for -/

variable {it : Item} {o : ItemOutcome}

theorem ctrlTake_of_awaited (hk : it.kind = .gate) (hw : s.ctrl.walker = .heldGate)
    (hp : s.ctrl.position = it.index) (o : ItemOutcome) : ctrlTake it o s = { s with
      ctrl := judgeGate (activeBank s)[it.index] o
        { s.ctrl with current := s.ctrl.current.countOutcome o } } := by
  simp [ctrlTake, awaitsGate, hk, hw, hp]

/-- The gate that the walker holds for passes: the walk goes on (R36). -/
theorem ctrlTake_of_pass {e : Entry} (hk : it.kind = .gate) (hw : s.ctrl.walker = .heldGate)
    (hp : s.ctrl.position = it.index) (he : e = (activeBank s)[it.index]) (h : gatePasses e o = true) :
    ctrlTake it o s = { s with
      ctrl := wentOn { s.ctrl with current := s.ctrl.current.countOutcome o } } := by
  subst he
  rw [ctrlTake_of_awaited hk hw hp, wentOn_eq_advance, judgeGate, if_pos h]

/-- The gate that the walker holds for fails: the walk goes on behind its window (R36, R37). -/
theorem ctrlTake_of_fail {e : Entry} (hk : it.kind = .gate) (hw : s.ctrl.walker = .heldGate)
    (hp : s.ctrl.position = it.index) (he : e = (activeBank s)[it.index]) (h : gatePasses e o = false) :
    ctrlTake it o s = { s with
      ctrl := wentOn { s.ctrl with
        current := s.ctrl.current.countOutcome o, window := skipWindow it.index e.skip.toNat } } := by
  subst he
  rw [ctrlTake_of_awaited hk hw hp, wentOn_eq_advance, judgeGate, if_neg (Bool.eq_false_iff.1 h)]
  simp only [hp]

theorem completeAll_concat (n : Fin 4) (o : ItemOutcome) (l : List Item) (it : Item) (s : State) :
    completeAll n o (l ++ [it]) s = complete n it o (completeAll n o l s) := by
  simp [completeAll]

/-- Items that complete SKIPPED, the last of them the gate that the walker holds for, which has failed (R37,
R67). -/
theorem completeAll_gate_last (n : Fin 4) {e : Entry} {ahead : List Item} (hahead : ∀ x ∈ ahead, x.kind ≠ .gate)
    (hk : it.kind = .gate) (hw : s.ctrl.walker = .heldGate) (hp : s.ctrl.position = it.index)
    (he : e = (activeBank s)[it.index]) : completeAll n .skipped (ahead ++ [it]) s = { s with
      ctrl := wentOn { s.ctrl with
        current := { s.ctrl.current with
          laneSkipped := s.ctrl.current.laneSkipped + (ahead ++ [it]).length }
        window := skipWindow it.index e.skip.toNat } } := by
  rw [completeAll_concat, completeAll_counts (.inl rfl) (.inr hahead), foldl_skipped, complete_quiet _ _ _ _ (.inl rfl),
    List.length_append]
  exact ctrlTake_of_fail hk hw hp he rfl

end

/-- The lane that a FAULT halts, and what waits on it (R67). -/
theorem ended_of_halt {l : Lane} (h : l.cfg.haltOnFault = true) (f : FaultKind) :
    l.ended (.fault f) = { l with phase := .halted } := by
  simp [Lane.ended, phaseAfter, h]

/-- Settles O22: what waits is counted, and where its last item is the gate that the walker holds for, that gate
fails. -/
theorem haltingFault : Obligations.HaltingFault := by
  rintro n s u it f c late l skipped hs hrest h hkind rfl hhalt rfl
  obtain ⟨-, hctrl, -, hbank⟩ := h.left
  have hended : (u.lanes[n]).ended (.fault f) = { s.lanes[n] with phase := .halted } :=
    (h.ended _).trans (ended_of_halt hhalt f)
  have hfaulted : (complete n it (.fault f) u).ctrl =
      { s.ctrl with current := s.ctrl.current.countOutcome (.fault f) } := by
    rw [complete_ctrl n (.inr hkind), hctrl]
  have hsettled : settleItem n it (.fault f) u = completeAll n .skipped (s.lanes[n]).queue
      { complete n it (.fault f) u with
        lanes := u.lanes.set n.val { s.lanes[n] with phase := .halted, queue := [] } n.isLt } := by
    rw [settleItem_eq, hended]
    rfl
  rw [h.exec_eq hs]
  refine ⟨fun hno => ?_, fun ahead gate e hq hahead hgate hw hp he => ?_⟩
  · have hcounted := hsettled.trans (completeAll_counts (.inl rfl) (by rw [hfaulted]; exact hno))
    rw [foldl_skipped] at hcounted
    rw [runWalk_of_not_issuing]
    · rw [hcounted, hfaulted]
      rfl
    · rw [hcounted, hfaulted]
      exact hrest
  · refine ⟨skipWindow gate.index e.skip.toNat, skipWindow_fail gate.index e, ?_⟩
    have hbank' : activeBank (complete n it (.fault f) u) = activeBank s :=
      (activeBank_eq (complete_still ..) (complete_fixed ..)).trans hbank
    have hgateLast := completeAll_gate_last (s := { complete n it (.fault f) u with
      lanes := u.lanes.set n.val { s.lanes[n] with phase := .halted, queue := [] } n.isLt }) n hahead hgate
      (by rw [hfaulted]; exact hw) (by rw [hfaulted]; exact hp) (he.trans (congrArg (·[gate.index]) hbank'.symm))
    rw [hsettled, hq, hgateLast, hfaulted]
    rfl

/-! ### Gates in progress -/

/-- A lane on which nothing waits is settled where its item has ended. -/
theorem ended_settled {l : Lane} (hq : l.queue = []) (o : ItemOutcome) :
    (l.ended o).settled = l.ended o ∧ (l.ended o).skipped = [] := by
  have hqueue : (l.ended o).queue = [] := hq
  constructor
  · unfold Lane.settled
    split
    · simp only [Lane.ended, hq]
    · simp [Lane.takeHead, hqueue]
  · unfold Lane.skipped
    split
    · exact hqueue
    · rfl

/-- The phase of a lane that a completion has left (R62, R66, R67). -/
theorem ended_phase {l : Lane} {o : ItemOutcome} (h : (∃ r, o = .completed r) ∨ ∃ f, o = .fault f) :
    l.ended o = { l with phase := match o with
      | .fault _ => if l.cfg.haltOnFault then .halted else .idle
      | _ => .idle } := by
  rcases h with ⟨r, rfl⟩ | ⟨f, rfl⟩ <;> rfl

/-- The completion of an item that is no EXCHANGE reaches the event controller and the scan controller alone. -/
theorem complete_of_ne_exchange (n : Fin 4) {it : Item} (h : it.kind ≠ .exchange) (o : ItemOutcome) (s : State) :
    complete n it o s = ctrlTake it o (raiseLaneFault n o s) := by
  rw [complete, if_neg h]

theorem gatePasses_iff {e : Entry} {o : ItemOutcome} :
    gatePasses e o = true ↔ ∃ r, o = .completed r ∧ r &&& e.gateMask = e.gateMatch &&& e.gateMask := by
  cases o <;> simp [gatePasses]

theorem gatePasses_of_fail {e : Entry} {o : ItemOutcome} (h : (∃ f, o = .fault f) ∨
    ∃ r, o = .completed r ∧ r &&& e.gateMask ≠ e.gateMatch &&& e.gateMask) : gatePasses e o = false := by
  rcases h with ⟨f, rfl⟩ | ⟨r, rfl, hne⟩
  · rfl
  · simp [gatePasses, hne]

/-- Settles O23: the gate is counted, and judged where the walker holds for it. -/
theorem gateJudged : Obligations.GateJudged := by
  rintro n s u it o c late hs h hkind hq ho e t rfl ht
  obtain ⟨-, hctrl, hevents, hbank⟩ := h.left
  obtain ⟨hsettled, hskipped⟩ := ended_settled hq o
  have hset : settleItem n it o u = { ctrlTake it o (raiseLaneFault n o u) with
      lanes := u.lanes.set n.val ((s.lanes[n]).ended o) n.isLt } := by
    rw [settleItem_eq, h.ended, hsettled, hskipped, completeAll_nil, complete_of_ne_exchange n (by simp [hkind])]
  have hleft (d : Ctrl) : { raiseLaneFault n o u with
      ctrl := d, lanes := u.lanes.set n.val ((s.lanes[n]).ended o) n.isLt } = { t with ctrl := d } := by
    rw [ht, ended_phase ho, ← hevents]
    rcases ho with ⟨r, rfl⟩ | ⟨f, rfl⟩ <;> rfl
  have hraised : (raiseLaneFault n o u).ctrl = s.ctrl := (raiseLaneFault_ctrl ..).trans hctrl
  have hbank' : activeBank (raiseLaneFault n o u) = activeBank s := by
    rw [← hbank]
    cases o <;> rfl
  have hentry : (activeBank s)[it.index] = (activeBank (raiseLaneFault n o u))[it.index] :=
    congrArg (·[it.index]) hbank'.symm
  rw [h.exec_eq hs, hset]
  refine ⟨fun hw hp => ⟨fun hpass => ?_, fun hfail => ⟨_, skipWindow_fail _ _, ?_⟩⟩, fun hw => ?_⟩
  · rw [ctrlTake_of_pass hkind (by rw [hraised]; exact hw) (by rw [hraised]; exact hp) hentry (gatePasses_iff.2 hpass),
      hleft, hraised, ht]
  · rw [ctrlTake_of_fail hkind (by rw [hraised]; exact hw) (by rw [hraised]; exact hp) hentry (gatePasses_of_fail hfail),
      hleft, hraised, ht]
  · rw [ctrlTake_counts _ _ _ (.inl (by simp [hctrl, hw])), hleft, hraised]
    rw [runWalk_of_not_issuing _ (by simp [hw]), ht]

end Sys2Proof.Machine
end

section
/-! Proofs about what a completion reaches (3.5, 4.3, 5.2), and how an item reaches its lane (2.4, 3.3). -/

namespace Sys2Proof.Machine

/-! ### Completions at their receivers -/

section
variable (s : State) (c : Ctrl)

/-- A post is no concern of the scan controller. -/
theorem postAlert_withCtrl (kind : AlertKind) (i : Fin 64) (q : Word) (v : Value) :
    postAlert kind i q v { s with ctrl := c } = { postAlert kind i q v s with ctrl := c } := by
  simp only [postAlert]
  split <;> rfl

theorem postIfEnabled_withCtrl {kind : AlertKind} {i : Fin 64} {enabled : Bool}
    (h : (s.limits[i]).alertEnabled kind = enabled) (q : Word) (v : Value) :
    { postIfEnabled kind i q v s with ctrl := c } =
      if enabled then postAlert kind i q v { s with ctrl := c } else { s with ctrl := c } := by
  rw [postIfEnabled, h]
  cases enabled
  · rfl
  · exact (postAlert_withCtrl s c kind i q v).symm

end

/-- The limit monitor selects no FAULT alert (R98). -/
theorem evaluateLimit_ne_fault (c : SlotConfig) (before : LimitState) (v : Value) :
    (evaluateLimit c before v).2 ≠ .fault := by
  unfold evaluateLimit
  repeat' split
  all_goals exact nofun

theorem alertEnabled_iff {c : SlotConfig} {k : AlertKind} (h : k ≠ .fault) : c.alertEnabled k = true ↔
    k = .high ∧ c.highAlert = true ∨ k = .low ∧ c.lowAlert = true ∨ k = .back ∧ c.returnAlert = true := by
  cases k <;> simp [SlotConfig.alertEnabled] at h ⊢

/-- An item that no gate makes, or that finds no walker holding, is counted behind its other receivers. -/
theorem complete_counted (n : Fin 4) {it : Item} {s : State} (h : s.ctrl.walker ≠ .heldGate ∨ it.kind ≠ .gate)
    (o : ItemOutcome) : complete n it o s = { beforeCtrl n it o s with
      ctrl := { s.ctrl with current := s.ctrl.current.countOutcome o } } := by
  have hctrl := (beforeCtrl_still s n it o).2.1
  rw [complete_eq, ctrlTake_counts it o _ (by rwa [hctrl]), hctrl]

/-- Settles O24: the sample table, then the event controller, then the report. -/
theorem completionReachesItsReceivers : Obligations.CompletionReachesItsReceivers := by
  intro n it s hgate
  refine ⟨?done, ?fault, fun r hk => ?_, fun f hk => ?_, ?_, ?_⟩
  case done =>
    rintro r hk old cfg v verdict rfl rfl rfl rfl lost enabled written hlost henabled rfl
    have hlost' : ((s.limits[it.slot]).watch && decide ((s.samples.slots[it.slot]).status = .fresh)) = lost := by
      rw [Bool.eq_iff_iff, hlost, Bool.and_eq_true, decide_eq_true_iff]
    have henabled' : (s.limits[it.slot]).alertEnabled (evaluateLimit s.limits[it.slot]
        (s.samples.slots[it.slot]).limit
        (extractField r it.extShift.toNat it.extWidth it.extSigned)).2 = enabled := by
      rw [Bool.eq_iff_iff, henabled, alertEnabled_iff (evaluateLimit_ne_fault _ _ _)]
    rw [complete_counted n hgate, beforeCtrl, if_pos hk]
    simp only [raiseLaneFault, sampleTake, storeSample, hlost']
    refine (postIfEnabled_withCtrl _ _ (enabled := enabled) ?_ _ _).trans ?_
    · cases lost <;> exact henabled'
    · cases lost <;> rfl
  case fault =>
    rintro f hk old written rfl rfl
    rw [complete_counted n hgate, beforeCtrl, if_pos hk]
    exact congrArg (raise (laneFaultSource n)) (postIfEnabled_withCtrl (enabled := (s.limits[it.slot]).faultAlert)
      (setSlot it.slot { s.samples.slots[it.slot] with status := .fault, faultKind := some f } s) _ rfl _ _)
  · rw [complete_counted n hgate, beforeCtrl, if_neg hk]
    rfl
  · rw [complete_counted n hgate, beforeCtrl, if_neg hk]
    rfl
  · rw [complete_counted n hgate, beforeCtrl]
    split <;> rfl
  · rw [complete_counted n hgate, beforeCtrl]
    split <;> rfl

/-! ### Items that reach their lane -/

section
variable {s : State} {n : Fin 4} {it : Item}

/-- An item that enters a lane's queue, and the lane settles (R34). -/
theorem enqueue_eq (n : Fin 4) (it : Item) (s : State) : enqueue n it s =
    completeAll n .skipped ((s.lanes[n]).queued it).skipped { s with
      lanes := s.lanes.set n.val ((s.lanes[n]).queued it).settled n.isLt } := by
  have hlane : (setLane n ((s.lanes[n]).queued it) s).lanes[n] = (s.lanes[n]).queued it := by simp
  have hqueued : enqueue n it s = settleLane n (setLane n ((s.lanes[n]).queued it) s) := rfl
  rw [hqueued, settleLane_eq, hlane]
  simp only [setLane, Vector.set_set]

/-- An IDLE lane with nothing waiting begins the item at once (R54, R55). -/
theorem queued_of_idle {l : Lane} (hp : l.phase = .idle) (hq : l.queue = []) (it : Item) :
    (l.queued it).settled = { l with phase := beginItem l.cfg it } ∧ (l.queued it).skipped = [] := by
  obtain ⟨c, p, q⟩ := l
  obtain rfl : p = .idle := hp
  obtain rfl : q = [] := hq
  exact ⟨rfl, rfl⟩

/-- A HALTED lane keeps none (R67). -/
theorem queued_of_halted {l : Lane} (hp : l.phase = .halted) (hq : l.queue = []) (it : Item) :
    (l.queued it).settled = l ∧ (l.queued it).skipped = [it] := by
  obtain ⟨c, p, q⟩ := l
  obtain rfl : p = .halted := hp
  obtain rfl : q = [] := hq
  exact ⟨rfl, rfl⟩

theorem phase_of_item {p : LanePhase} (h : p.item ≠ none) : p ≠ .idle ∧ p ≠ .halted ∧ p ≠ .disabled := by
  refine ⟨?_, ?_, ?_⟩ <;> rintro rfl <;> exact h rfl

theorem settled_of_item {l : Lane} (h : l.phase.item ≠ none) : l.settled = l := by
  obtain ⟨hidle, hhalted, -⟩ := phase_of_item h
  unfold Lane.settled
  split
  next hp => exact absurd hp hhalted
  next => exact takeHead_of_not_idle hidle

/-- A lane at work keeps it at the tail (R54). -/
theorem queued_of_item {l : Lane} (h : l.phase.item ≠ none) (it : Item) :
    (l.queued it).settled = l.queued it ∧ (l.queued it).skipped = [] :=
  ⟨settled_of_item (l := l.queued it) h, skipped_of_ne_halted (l := l.queued it) (phase_of_item h).2.1⟩

theorem enqueue_of_idle (hp : (s.lanes[n]).phase = .idle) (hq : (s.lanes[n]).queue = []) :
    enqueue n it s = { s with
      lanes := s.lanes.set n.val { s.lanes[n] with phase := beginItem (s.lanes[n]).cfg it } n.isLt } := by
  obtain ⟨hsettled, hskipped⟩ := queued_of_idle hp hq it
  rw [enqueue_eq, hsettled, hskipped, completeAll_nil]

theorem enqueue_of_item (h : (s.lanes[n]).phase.item ≠ none) : enqueue n it s = { s with
    lanes := s.lanes.set n.val { s.lanes[n] with queue := (s.lanes[n]).queue ++ [it] } n.isLt } := by
  obtain ⟨hsettled, hskipped⟩ := queued_of_item h it
  rw [enqueue_eq, hsettled, hskipped, completeAll_nil]
  rfl

theorem enqueue_of_halted (hp : (s.lanes[n]).phase = .halted) (hq : (s.lanes[n]).queue = []) :
    enqueue n it s = complete n it .skipped s := by
  obtain ⟨hsettled, hskipped⟩ := queued_of_halted hp hq it
  rw [enqueue_eq, hsettled, hskipped]
  exact congrArg (complete n it .skipped) (setLane_self n s)

end

theorem kind_eq (e : Entry) : e.kind = match (e.word 0).toNat % 8 with
    | 0 => some .empty | 1 => some .exchange | 2 => some .write | 3 => some .gate | 4 => some .pause
    | 5 => some .endWalk | _ => none := by
  have hcode : (field (e.word 0) 0 3).toNat = (e.word 0).toNat % 8 := by simp [field_toNat]
  rw [← hcode]
  rfl

theorem itemKind_eq (e : Entry) : e.itemKind = match (e.word 0).toNat % 8 with
    | 1 => some .exchange | 2 => some .write | 3 => some .gate | 4 => some .pause | _ => none := by
  have hlt : (e.word 0).toNat % 8 < 8 := Nat.mod_lt _ (by decide)
  rw [Entry.itemKind, kind_eq]
  generalize (e.word 0).toNat % 8 = code at hlt ⊢
  interval_cases code <;> rfl

theorem top_field_toNat (w : Word) (lo n : Nat) (h : lo + n = 16) : (field w lo n).toNat = w.toNat / 2 ^ lo := by
  rw [field_toNat, Nat.mod_eq_of_lt]
  exact Nat.div_lt_of_lt_mul (by rw [← pow_add, h]; exact w.isLt)

/-- Settles O28: the fields in their places, and the item's arrival in each state of its lane. -/
theorem itemReachesItsLane : Obligations.ItemReachesItsLane := by
  refine ⟨fun e w hw => ?_, fun i k e frame => rfl, ?_⟩
  · obtain rfl : w = e.word := funext hw
    refine ⟨kind_eq e, itemKind_eq e, field_toNat _ 3 3, field_toNat _ 6 7, rfl, top_field_toNat _ 14 2 rfl, ?_,
      field_toNat _ 2 6, field_toNat _ 8 6, rfl, rfl, top_field_toNat _ 12 4 rfl, ?_, field_toNat _ 6 5,
      congrArg (· + 1) (top_field_toNat _ 11 5 rfl), rfl, rfl, rfl⟩
    · exact (field_toNat _ 0 2).trans (by simp)
    · exact (field_toNat _ 0 6).trans (by simp)
  · rintro n it s l skipped rfl rfl
    refine ⟨fun hp hq => ?_, fun hp => ?_, fun hp hq hno => ?_, fun hp hq hk hw hpos => ?_⟩
    · rw [enqueue_of_idle hp hq, beginItem_eq]
    · exact enqueue_of_item hp
    · rw [enqueue_of_halted hp hq, complete_quiet _ _ _ _ (.inl rfl), ctrlTake_counts _ _ _ hno.symm]
      rfl
    · refine ⟨_, skipWindow_fail _ _, ?_⟩
      rw [enqueue_of_halted hp hq, complete_quiet _ _ _ _ (.inl rfl), ctrlTake_of_fail hk hw hpos rfl rfl]
      rfl

/-! ### The release of the held entry -/

theorem settled_of_halted {l : Lane} (hp : l.phase = .halted) (hq : l.queue = []) :
    l.settled = l ∧ l.skipped = [] := by
  obtain ⟨c, p, q⟩ := l
  obtain rfl : p = .halted := hp
  obtain rfl : q = [] := hq
  exact ⟨rfl, rfl⟩

/-- A lane that is at work, or is halted or idle and empty, stands as settling leaves it. -/
theorem settleLane_of_settled {s : State} {n : Fin 4} (h : (s.lanes[n]).phase.item ≠ none ∨
    ((s.lanes[n]).phase = .halted ∨ (s.lanes[n]).phase = .idle) ∧ (s.lanes[n]).queue = []) :
    settleLane n s = s := by
  have hlane : (s.lanes[n]).settled = s.lanes[n] ∧ (s.lanes[n]).skipped = [] := by
    rcases h with hitem | ⟨hhalted | hidle, hq⟩
    · exact ⟨settled_of_item hitem, skipped_of_ne_halted (phase_of_item hitem).2.1⟩
    · exact settled_of_halted hhalted hq
    · refine ⟨settled_of_idle hidle hq, skipped_of_ne_halted ?_⟩
      rw [hidle]
      exact nofun
  rw [settleLane_eq, hlane.1, hlane.2, completeAll_nil, setLane_self]

section
variable {s : State} (hw : s.ctrl.walker = .heldQueue)
  (hlane : settleLane (heldEntry s).lane s = s)
include hw hlane

theorem release_of_room {k : ItemKind} (hk : (heldEntry s).itemKind = some k)
    (hroom : (s.lanes[(heldEntry s).lane]).queue.length < 4) :
    lateStep s .release = runWalk (issueEntry k (heldEntry s) s) := by
  have hdue : releaseDue s = true := by
    rw [releaseDue, Bool.and_eq_true, decide_eq_true_iff, decide_eq_true_iff]
    exact ⟨hw, hroom⟩
  simp only [lateStep, takeAndRelease, hlane, when, hw, decide_true, if_true, hdue, releaseHeld, hk]

theorem release_of_full (hfull : 4 ≤ (s.lanes[(heldEntry s).lane]).queue.length) : lateStep s .release = s := by
  have hdue : releaseDue s = false := by
    rw [releaseDue, Bool.and_eq_false_iff, decide_eq_false_iff_not, decide_eq_false_iff_not]
    exact .inr (Nat.not_lt.2 hfull)
  simp only [lateStep, takeAndRelease, hlane, when, hw, decide_true, if_true, hdue, Bool.false_eq_true, if_false]

end

/-- Settles O27: the held entry is issued as the walk issues one, and its item reaches its lane. -/
theorem heldQueueRelease : Obligations.HeldQueueRelease := by
  rintro s e k l it c hs hw rfl hk rfl rfl rfl
  have hissued : s.ctrl.issued k = if k = .gate then
      { s.ctrl with
        walker := .heldGate
        current := { s.ctrl.current with due := s.ctrl.current.due + 1, issued := s.ctrl.current.issued + 1 } }
      else wentOn { s.ctrl with
        current := { s.ctrl.current with due := s.ctrl.current.due + 1, issued := s.ctrl.current.issued + 1 } } :=
    ctrl_issued_eq s.ctrl k
  rw [exec_heldQueueRelease hs]
  refine ⟨fun hp hroom => ?_, fun hp hq => ?_, fun hp hfull => ?_⟩
  · rw [release_of_room hw (settleLane_of_settled (.inl hp)) hk hroom, issueEntry_eq, hissued]
    exact congrArg (fun t => Host.Outcome.next (runWalk t)) (enqueue_of_item (s := { s with ctrl := _ }) hp)
  · rw [release_of_room hw (settleLane_of_settled (.inr ⟨hp, hq⟩)) hk (lt_of_eq_of_lt (congrArg List.length hq) (by decide)), issueEntry_eq, hissued]
    rfl
  · rw [release_of_full hw (settleLane_of_settled (.inl hp)) hfull]

/-! ### A sample of LnRDY -/

/-- Settles O18: the sample is ready by the lane's setting, or not. -/
theorem readySeen : Obligations.ReadySeen := by
  intro n rdy s it k hs hphase
  have hexec : exec (.readySeen n rdy) s =
      .next (if readyActive (s.lanes[n]).cfg rdy then setPhase n (.shifting it) s else s) := by
    refine (running_eq_next hs _).trans ?_
    simp only [sampleReady, hphase]
  rw [hexec]
  refine ⟨fun h => ?_, fun h => ?_⟩
  · rw [if_pos]
    · rfl
    · rcases h with ⟨h, rfl⟩ | ⟨h, rfl⟩ <;> simp only [readyActive, h, Bool.not_false]
  · rw [if_neg]
    rcases h with ⟨h, rfl⟩ | ⟨h, rfl⟩ <;> simp only [readyActive, h] <;> simp

end Sys2Proof.Machine
end

section
/-! Proofs about ABORT (2.8, 3.7) and the outputs of a lane (3.2, 3.4). -/

namespace Sys2Proof.Machine

/-! ### Abort requests while the walker drains -/

theorem aborted_of_off {l : Lane} (h : l.phase = .disabled ∨ l.phase = .halted) :
    l.aborted = l ∧ l.abortedItems = [] := by
  rcases h with h | h <;> simp only [Lane.aborted, Lane.abortedItems, h, and_self]

theorem aborted_of_on {l : Lane} (hd : l.phase ≠ .disabled) (hh : l.phase ≠ .halted) :
    l.aborted = { l with phase := .idle, queue := [] } ∧ l.abortedItems = l.items := by
  unfold Lane.aborted Lane.abortedItems
  split
  next h => exact absurd h hd
  next h => exact absurd h hh
  next => exact ⟨rfl, rfl⟩

/-- Both as the claim says them: a lane that is neither DISABLED nor HALTED ends its items (R70). -/
theorem aborted_eq (l : Lane) :
    (l.aborted = if l.phase = .disabled ∨ l.phase = .halted then l else { l with phase := .idle, queue := [] }) ∧
      l.abortedItems.length = if l.phase = .disabled ∨ l.phase = .halted then 0 else l.items.length := by
  by_cases h : l.phase = .disabled ∨ l.phase = .halted
  · obtain ⟨haborted, hitems⟩ := aborted_of_off h
    rw [haborted, hitems, if_pos h, if_pos h]
    exact ⟨rfl, rfl⟩
  · obtain ⟨hd, hh⟩ := not_or.1 h
    obtain ⟨haborted, hitems⟩ := aborted_of_on hd hh
    rw [haborted, hitems, if_neg h, if_neg h]
    exact ⟨rfl, rfl⟩

/-- The state after the abort requests of some lanes, the walker draining (R45, R70). -/
def requested (ns : List (Fin 4)) (s : State) : State :=
  { s with
    ctrl := { s.ctrl with current := { s.ctrl.current with
      aborted := s.ctrl.current.aborted + (ns.map fun n => (s.lanes[n]).abortedItems.length).sum } }
    lanes := Vector.ofFn fun n => if n ∈ ns then (s.lanes[n]).aborted else s.lanes[n] }

section
variable {s : State} (hw : s.ctrl.walker = .draining)
include hw

theorem abortLane_of_draining (n : Fin 4) : abortLane s n = { s with
    ctrl := { s.ctrl with current := { s.ctrl.current with
      aborted := s.ctrl.current.aborted + (s.lanes[n]).abortedItems.length } }
    lanes := s.lanes.set n.val (s.lanes[n]).aborted n.isLt } := by
  have hgate : (setLane n (s.lanes[n]).aborted s).ctrl.walker ≠ .heldGate := by simp [hw]
  rw [abortLane_eq, completeAll_counts (.inr rfl) (.inl hgate), foldl_aborted]
  rfl

theorem abortLanes_of_draining {ns : List (Fin 4)} (hns : ns.Nodup) : ns.foldl abortLane s = requested ns s := by
  induction ns generalizing s with
  | nil =>
    have hlanes : (Vector.ofFn fun n : Fin 4 => s.lanes[n]) = s.lanes := Vector.ext fun i hi => by simp
    simp only [requested, List.map_nil, List.sum_nil, Nat.add_zero, List.not_mem_nil, if_false, hlanes, List.foldl_nil]
  | cons n ns ih =>
    obtain ⟨hn, hns⟩ := List.nodup_cons.1 hns
    have hlane (m : Fin 4) : (s.lanes.set n.val (s.lanes[n]).aborted n.isLt)[m] =
        if m = n then (s.lanes[n]).aborted else s.lanes[m] := by
      by_cases h : m = n
      · subst h
        simp
      · rw [if_neg h]
        exact Vector.getElem_set_ne _ _ fun e => h (Fin.ext e.symm)
    have hrest : (ns.map fun m => ((s.lanes.set n.val (s.lanes[n]).aborted n.isLt)[m]).abortedItems.length) =
        ns.map fun m => (s.lanes[m]).abortedItems.length :=
      List.map_congr_left fun m hm => by rw [hlane, if_neg fun e : m = n => hn (e ▸ hm)]
    have hall : (Vector.ofFn fun m => if m ∈ ns then ((s.lanes.set n.val (s.lanes[n]).aborted n.isLt)[m]).aborted
          else (s.lanes.set n.val (s.lanes[n]).aborted n.isLt)[m]) =
        Vector.ofFn fun m => if m ∈ n :: ns then (s.lanes[m]).aborted else s.lanes[m] := by
      congr 1
      funext m
      rw [hlane]
      by_cases h : m = n
      · subst h
        simp [hn]
      · simp [h]
    have hdraining : (abortLane s n).ctrl.walker = .draining := by
      rw [abortLane_of_draining hw]
      exact hw
    rw [List.foldl_cons, ih hdraining hns, abortLane_of_draining hw]
    simp only [requested, hrest, hall, List.map_cons, List.sum_cons, Nat.add_assoc]

/-- The requests of all four lanes, one after another, as one record (R45, R70). -/
theorem abortAll_of_draining : allLanes.foldl abortLane s = { s with
    ctrl := { s.ctrl with
      current := { s.ctrl.current with
        aborted := s.ctrl.current.aborted + (s.lanes.toList.map fun l =>
          if l.phase = .disabled ∨ l.phase = .halted then 0 else l.items.length).sum } }
    lanes := s.lanes.map fun l =>
      if l.phase = .disabled ∨ l.phase = .halted then l else { l with phase := .idle, queue := [] } } := by
  have hlist : s.lanes.toList = allLanes.map fun n => s.lanes[n] := by
    have hall : allLanes = List.finRange 4 := by decide
    rw [hall, ← List.ofFn_eq_map]
    refine List.ext_getElem (by simp) fun i _ _ => ?_
    simp only [Vector.getElem_toList, List.getElem_ofFn, Fin.getElem_fin]
  have hlanes : (Vector.ofFn fun n : Fin 4 => if n ∈ allLanes then (s.lanes[n]).aborted else s.lanes[n]) =
      s.lanes.map fun l =>
        if l.phase = .disabled ∨ l.phase = .halted then l else { l with phase := .idle, queue := [] } := by
    have hmem : ∀ n : Fin 4, n ∈ allLanes := by decide
    refine Vector.ext fun i hi => ?_
    rw [Vector.getElem_ofFn, if_pos (hmem _), Vector.getElem_map]
    exact (aborted_eq _).1
  rw [abortLanes_of_draining hw (by decide), requested, hlanes, hlist, List.map_map]
  simp only [(aborted_eq _).2]
  rfl

end

/-! ### Lane events in ACTIVE -/

/-- What a lane event leaves of the scan controller in ACTIVE: no entry is issued, and a walker that drains and a
stop that waits stay (R24, R46). -/
structure StaysActive (c d : Ctrl) : Prop where
  issued : d.current.issued = c.current.issued
  state  : d.state = .active
  walker : c.walker = .draining → d.walker = .draining
  stop   : c.stopPending = true → d.stopPending = true

namespace StaysActive

variable {c d e : Ctrl}

theorem released (h : StaysActive c d) (hde : Released d e) : StaysActive c e where
  issued := (congrArg (·.2.1) hde.walked).trans h.issued
  state := (congrArg CtrlFixed.state hde.fixed).trans h.state
  walker hw := (hde.walker_eq (by simp [h.walker hw])).trans (h.walker hw)
  stop hp := (congrArg CtrlFixed.stopPending hde.fixed).trans (h.stop hp)

theorem takeTrigger {s : State} (h : StaysActive c s.ctrl) : StaysActive c (takeTrigger s).ctrl := by
  rcases takeTrigger_cases s with e | ⟨hstate, -⟩ | ⟨-, -, e | e⟩
  · rw [e]
    exact h
  · exact nomatch h.state.symm.trans hstate
  · rw [e]
    exact ⟨h.issued, h.state, h.walker, h.stop⟩
  · rw [e]
    exact ⟨h.issued, h.state, h.walker, h.stop⟩

theorem settleItem {s : State} (n : Fin 4) (it : Item) (o : ItemOutcome) (h : StaysActive c s.ctrl) :
    StaysActive c (settleItem n it o s).ctrl := h.released (settleItem_released s n it o)

theorem lateCount {s : State} (n : Fin 4) (h : StaysActive c s.ctrl) :
    StaysActive c (lateCount Machine.settleItem s n).ctrl := by
  rcases lateCount_cases Machine.settleItem s n with
    e | ⟨it, -, ⟨-, e⟩ | ⟨-, e⟩⟩ | ⟨it, -, ⟨-, e⟩ | ⟨-, e⟩⟩ <;> rw [e]
  · exact h
  · exact h
  · exact settleItem (s := setPhase n (.readyWait it 1) s) n it _ h
  · exact h
  · exact settleItem (s := setPhase n (.pausing it 1) s) n it _ h

theorem laneEnd {s : State} (hs : s.ctrl.state = .active) (e : LaneEnd) :
    StaysActive s.ctrl (laneEnd s e).ctrl :=
  laneEnd_keeps (fun t => StaysActive s.ctrl t.ctrl) (fun n it o _ ht => settleItem n it o ht) (fun _ _ _ ht => ht)
    (fun _ ht => ht) (fun _ ht => takeTrigger ht) (fun _ ht => ht) (fun _ n ht => lateCount n ht) s e
    ⟨rfl, hs, id, id⟩

end StaysActive

/-! ### A row as its event with the walk behind it -/

section
variable {s : State} (hrest : AtRest s) (n : Fin 4)
include hrest

theorem endGap_finish : endGap finishItem n s = runWalk (endGap settleItem n s) := by
  cases hp : (s.lanes[n]).phase with
  | gap it o =>
    rw [endGap_of_gap _ hp, endGap_of_gap _ hp]
    rfl
  | _ =>
    simp only [endGap, hp]
    exact (runWalk_of_not_issuing s hrest).symm

theorem endShifting_finish (din : BitVec 64) :
    endShifting finishItem n din s = runWalk (endShifting settleItem n din s) := by
  cases hp : (s.lanes[n]).phase with
  | shifting it =>
    rw [endShifting_of_shifting _ hp, endShifting_of_shifting _ hp]
    by_cases hg : (s.lanes[n]).cfg.gap = 0
    · exact (if_pos hg).trans (congrArg runWalk (if_pos hg).symm)
    · exact (if_neg hg).trans ((runWalk_of_not_issuing (setPhase n _ s) hrest).symm.trans
        (congrArg runWalk (if_neg hg).symm))
  | _ =>
    simp only [endShifting, hp]
    exact (runWalk_of_not_issuing s hrest).symm

end

/-- A tick that ends no wait and no timer leaves its counts. -/
theorem tickTimerFirst_of_none {s : State} (h : TickEndsOnly (fun _ => False) s) (ending : Ending) :
    tickTimerFirst ending s = takeTick (takeMeeting s) :=
  tickTimerFirst_quiet ending s h.expiresNext (endedLanes_of_goOn (s := takeMeeting s) h.2 _)

theorem lateCounts_takeTick (ending : Ending) (s : State) (ns : List (Fin 4)) :
    ns.foldl (lateCount ending) (takeTick s) = takeTick s :=
  foldl_keeps (· = takeTick s) (lateCount ending) ns
    (fun t n _ ht => by rw [ht, lateCount_takeTick]) (takeTick s) rfl

/-- The requests of an ABORT in ACTIVE find the walker draining (R45, R46). -/
theorem abort_walker {s : State} (hs : s.ctrl.state = .active) (l : List AbortStep) :
    Draining (l.foldl abortStep { s with
      ctrl := { s.ctrl with stopPending := true, abortMark := true, walker := .draining } }) :=
  Draining.abortSteps (s := { s with
    ctrl := { s.ctrl with stopPending := true, abortMark := true, walker := .draining } }) ⟨hs, rfl, rfl⟩ l

theorem exec_abort {s : State} (hs : Running s) : exec .abort s = .next (commandAbort s) := running_eq_next hs _

section
variable {s t : State} (ht : t = (nextMeeting s).before.foldl laneEnd (takeMeeting s))
include ht

theorem commandAbort_of_stopped (h : t.ctrl.state = .stopped) : commandAbort s = accepted t := by
  subst ht
  simp only [commandAbort, h]

theorem commandAbort_of_waiting (h : t.ctrl.state = .waiting) :
    commandAbort s = accepted (stopWaiting (nextMeeting s).tickFirst t) := by
  subst ht
  simp only [commandAbort, h]

theorem commandAbort_of_active (h : t.ctrl.state = .active) : commandAbort s =
    accepted (allLanes.foldl abortLane ((nextMeeting s).between.foldl abortStep { t with
      ctrl := { t.ctrl with stopPending := true, abortMark := true, walker := .draining } })) := by
  subst ht
  simp only [commandAbort, h]

end

/-- Settles O6: the lane events before it, the state they leave, and the requests. -/
theorem abortCommand : Obligations.AbortCommand := by
  refine ⟨?command, ?request, ?events⟩
  case command =>
    rintro s t met hs rfl ht
    rw [exec_abort hs]
    refine ⟨fun h => ?_, fun h => ⟨fun hhalt => ?_, fun hfirst hc h1 => ?_⟩, ?_⟩
    · rw [commandAbort_of_stopped ht h]
      rfl
    · rw [commandAbort_of_waiting ht h, stopWaiting_of_halt (tickFirst := (nextMeeting s).tickFirst) hhalt]
      rfl
    · rw [commandAbort_of_waiting ht h, stopWaiting_of_tick (tickFirst := (nextMeeting s).tickFirst) hfirst hc h1]
      rfl
    · rintro h u rfl
      obtain ⟨-, -, hwalker⟩ := abort_walker h (nextMeeting s).between
      rw [commandAbort_of_active ht h, abortAll_of_draining hwalker]
      rfl
  case request =>
    rintro u n l hw rfl
    refine ⟨fun h => ?_, fun hd hh => ?_⟩
    · obtain ⟨haborted, hitems⟩ := aborted_of_off h
      rw [abortStep, abortLane_eq, haborted, hitems, completeAll_nil, setLane_self]
    · obtain ⟨haborted, hitems⟩ := aborted_of_on hd hh
      rw [abortStep, abortLane_of_draining hw, haborted, hitems]
  case events =>
    intro s hs
    refine ⟨fun e => rfl, fun n hrest => ?_, fun n din hrest => ?_, fun n it o u late hrest h => ⟨h.exec_eq hs, ?_⟩,
      fun u h hu => ⟨?_, ?_⟩, fun h e => ?_⟩
    · rw [exec_gapEnd hs, endGap_finish hrest]
      rfl
    · rw [exec_shiftEnd hs, endShifting_finish hrest]
      rfl
    · rcases h.cases with ⟨-, -, ⟨-, hc⟩ | ⟨din, -, -, -, hc⟩⟩ | ⟨rfl, rfl, hnext, honly, -⟩
      · exact nomatch hc
      · exact nomatch hc
      · rw [laneEnd, tickTimerFirst_of_endsNext hnext honly]
    · rw [exec_tick hs, tickTaken, tickTimerFirst_of_none h, hu]
      rfl
    · rw [laneEnd, tickTimerFirst_of_none h, lateCounts_takeTick, hu]
      rfl
    · obtain ⟨hissued, hstate, hwalker, hstop⟩ := StaysActive.laneEnd h e
      exact ⟨hissued, hstate, hwalker, hstop⟩

/-! ### The outputs of a lane -/

theorem selectLevels_none (c : LaneConfig) : selectLevels c none = Vector.replicate 4 (!c.selectActiveHigh) :=
  Vector.ext fun i hi => by simp [selectLevels]

theorem pins_of_idle_levels {l : Lane} (hd : l.phase ≠ .disabled) (hs : ∀ it, l.phase ≠ .shifting it) (h : Nat) :
    l.pins h = some {
      clk := l.cfg.clockMode.getLsbD 1, dout := l.cfg.fillBit
      sel := Vector.replicate 4 (!l.cfg.selectActiveHigh) } := by
  have hidle : l.pins h = some (idlePins l.cfg) := by
    cases hp : l.phase with
    | disabled => exact absurd hp hd
    | shifting it => exact absurd hp (hs it)
    | _ => simp only [Lane.pins, hp]
  rw [hidle, idlePins, selectLevels_none]
  rfl

theorem selectLevels_getElem (c : LaneConfig) (select : BitVec 2) (j : Fin 4) :
    (selectLevels c (if c.loopback then none else some select))[j] =
      if c.loopback = false ∧ select.toNat = j.val then c.selectActiveHigh else !c.selectActiveHigh := by
  have hselect : select = BitVec.ofFin j ↔ select.toNat = j.val := BitVec.toNat_inj.symm
  cases hl : c.loopback <;> simp [selectLevels, hselect]

/-- In bit period `k` the item and the lane's fill bit give the data output's bit (R59). -/
theorem sentBit_of_pos (c : LaneConfig) (it : Item) {k : Nat} (hk : 1 ≤ k) : sentBit c it k =
    if k ≤ it.outLen.toNat then it.outWord.getLsbD (if c.lsbFirst then k - 1 else it.outLen.toNat - k)
    else c.fillBit := by
  simp only [sentBit, hk, true_and]

section
variable (c : LaneConfig) (it : Item)

/-- The outputs in the first half of bit period `k + 1`: driven from this period in modes 0 and 2, from the one
before in modes 1 and 3, the fill bit at the start (R56, R59). -/
theorem shiftPins_first {k : Nat} (hk : k < it.periods) :
    (shiftPins c it (2 * k)).clk = idleLevel c.clockMode ∧ (shiftPins c it (2 * k)).dout =
      if trailingCapture c.clockMode then if k = 0 then c.fillBit else sentBit c it k
      else sentBit c it (k + 1) := by
  have hlt : 2 * k < 2 * it.periods := by omega
  have hhalf : 2 * k / 2 = k := by omega
  have hfirst : ¬ 2 * k % 2 = 1 := by omega
  simp [shiftPins, hlt, hhalf]

theorem shiftPins_second {k : Nat} (hk : k < it.periods) :
    (shiftPins c it (2 * k + 1)).clk = !idleLevel c.clockMode ∧
      (shiftPins c it (2 * k + 1)).dout = sentBit c it (k + 1) := by
  have hlt : 2 * k + 1 < 2 * it.periods := by omega
  have hhalf : (2 * k + 1) / 2 = k := by omega
  have hsecond : (2 * k + 1) % 2 = 1 := by omega
  simp [shiftPins, hlt, hhalf, hsecond]

theorem shiftPins_hold : (shiftPins c it (2 * it.periods)).clk = idleLevel c.clockMode ∧
    (shiftPins c it (2 * it.periods)).dout = c.fillBit := by
  simp [shiftPins]

end

/-! ### The lanes behind an ABORT -/

/-- An abort request leaves a lane that does not shift. -/
theorem aborted_not_shifting (l : Lane) (it : Item) : l.aborted.phase ≠ .shifting it := by
  by_cases h : l.phase = .disabled ∨ l.phase = .halted
  · rw [(aborted_of_off h).1]
    rcases h with h | h <;> rw [h] <;> exact nofun
  · obtain ⟨hd, hh⟩ := not_or.1 h
    rw [(aborted_of_on hd hh).1]
    exact nofun

theorem aborts_lane {s : State} (hw : s.ctrl.walker = .draining) (n : Fin 4) :
    (allLanes.foldl abortLane s).lanes[n] = (s.lanes[n]).aborted := by
  have hmem : n ∈ allLanes := by fin_cases n <;> decide
  rw [abortLanes_of_draining hw (by decide), requested]
  simp [hmem]

theorem aborted_cfg (l : Lane) : l.aborted.cfg = l.cfg := by
  unfold Lane.aborted
  split <;> rfl

theorem InnerUpdates.cfg {reads : Prop} {s t : State} (h : InnerUpdates reads s t) (n : Fin 4) :
    (t.lanes[n]).cfg = (s.lanes[n]).cfg :=
  h.keeps (P := fun t => (t.lanes[n]).cfg = (s.lanes[n]).cfg)
    (fun _ _ huv hu => (congrFun (congrArg HostOwned.lanes (innerUpdate_hostOwned huv).1) n).trans hu) rfl

/-- An ABORT in ACTIVE leaves every lane behind an abort request, its configuration the one before (R45, R177). -/
theorem commandAbort_lane {s : State} (hs : s.ctrl.state = .active) (n : Fin 4) :
    ∃ l : Lane, (commandAbort s).lanes[n] = l.aborted ∧ l.cfg = (s.lanes[n]).cfg := by
  obtain ⟨t, ht⟩ : ∃ t, t = (nextMeeting s).before.foldl laneEnd (takeMeeting s) := ⟨_, rfl⟩
  have hactive : t.ctrl.state = .active := by
    rw [ht]
    exact foldl_keeps (·.ctrl.state = .active) laneEnd _ (fun _ e _ hv => (StaysActive.laneEnd hv e).state) _ hs
  have hbefore : InnerUpdates True s t := by
    rw [ht]
    exact (Inner.foldl laneEnd_inner _).comp takeMeeting_inner s
  have hbetween := Inner.foldl (abortStep_inner (reads := True)) (nextMeeting s).between { t with
    ctrl := { t.ctrl with stopPending := true, abortMark := true, walker := .draining } }
  obtain ⟨-, -, hwalker⟩ := abort_walker hactive (nextMeeting s).between
  refine ⟨_, ?_, (hbetween.cfg n).trans (hbefore.cfg n)⟩
  rw [commandAbort_of_active ht hactive, ← aborts_lane hwalker n, accepted]
  exact congrArg (·[n]) (setResult_lanes ..)

/-- Settles O20: the levels half period by half period, and behind an ABORT no lane shifts. -/
theorem laneOutputs : Obligations.LaneOutputs := by
  refine ⟨?_, ?_⟩
  · rintro l h idle rfl
    refine ⟨fun hd => by simp only [Lane.pins, hd], fun hd hs => pins_of_idle_levels hd hs h, ?_⟩
    rintro it bit last hp rfl hbit
    have hsent {k : Nat} (hk : 1 ≤ k) : sentBit l.cfg it k = bit k := (sentBit_of_pos _ _ hk).trans (hbit k).symm
    refine ⟨shiftPins l.cfg it h, by simp only [Lane.pins, hp], selectLevels_getElem l.cfg it.select, ?_, ?_⟩
    · intro k hk hlast
      obtain ⟨k, rfl⟩ := Nat.exists_eq_add_of_le' hk
      have hlt : k < it.periods := by
        rw [Item.periods]
        omega
      obtain ⟨hclk1, hdout1⟩ := shiftPins_first l.cfg it hlt
      obtain ⟨hclk2, hdout2⟩ := shiftPins_second l.cfg it hlt
      rw [Nat.add_sub_cancel]
      refine ⟨?_, ?_, fun hmode => ?_, fun hmode => ⟨?_, ?_⟩⟩
      · rintro rfl
        exact hclk1
      · rintro rfl
        exact hclk2
      · rintro (rfl | rfl)
        · rw [hdout1, trailingCapture, hmode, hsent hk]
          rfl
        · rw [hdout2, hsent hk]
      · rintro (rfl | ⟨rfl, hnext⟩)
        · rw [hdout2, hsent hk]
        · rw [(shiftPins_first l.cfg it hnext).2, trailingCapture, hmode, if_pos rfl, if_neg (by omega), hsent hk]
      · rintro rfl
        refine (shiftPins_first l.cfg it (k := 0) (by omega)).2.trans ?_
        rw [trailingCapture, hmode, if_pos rfl, if_pos rfl]
    · rintro rfl
      exact shiftPins_hold l.cfg it
  · intro s t n h hs hactive ht hoff
    obtain ⟨l, hlane, hcfg⟩ := commandAbort_lane hactive n
    obtain rfl : commandAbort s = t := Host.Outcome.next.inj ((exec_abort hs).symm.trans ht)
    rw [pins_of_idle_levels hoff (by rw [hlane]; exact aborted_not_shifting l), hlane, aborted_cfg, hcfg]

end Sys2Proof.Machine
end

section
/-! Proofs about the writes of the table port (9.3) and of the registers (9.2). -/

namespace Sys2Proof.Machine

/-! ### Where a write of TABLE_DATA goes -/

theorem wordsOf_eq (t : Table) : wordsOf t = t.size := by cases t <;> rfl

theorem tableInRange_iff (s : State) :
    tableInRange s = true ↔ s.window.tableAddr.toNat < s.window.tableSel.size := decide_eq_true_iff

/-- What a write of TABLE_DATA does inside each table (R165). -/
def portWrite : Table → Word → State → State
  | .staged => writeStaged
  | .slotConfig => writeSlotConfig
  | .laneConfig => writeLaneConfig
  | .sourceConfig => writeSourceConfig
  | .active | .reports | .latches => fun _ => refuseWrite .readOnlyTarget 0x0D

section
variable {s : State} {t : Table} (ht : s.window.tableSel = t) (v : Word)
include ht

theorem writeTableData_of_inside (h : s.window.tableAddr.toNat < t.size) :
    writeTableData v s = portWrite t v s := by
  subst ht
  rw [writeTableData, if_pos ((tableInRange_iff s).2 h)]
  cases s.window.tableSel <;> rfl

theorem writeTableData_of_outside (h : t.size ≤ s.window.tableAddr.toNat) :
    writeTableData v s = refuseWrite .tableRange 0x0D s := by
  subst ht
  exact if_neg (by rw [tableInRange_iff]; exact Nat.not_lt.2 h)

end

section
variable {s : State} (hs : Running s)
include hs

theorem exec_slotConfigWrite (v : Word) : exec (.slotConfigWrite v) s = .next (writeTableData v s) :=
  running_eq_next hs _

theorem exec_laneConfigWrite (v : Word) : exec (.laneConfigWrite v) s = .next (writeTableData v s) :=
  running_eq_next hs _

theorem exec_sourceConfigWrite (v : Word) : exec (.sourceConfigWrite v) s = .next (writeTableData v s) :=
  running_eq_next hs _

end

/-- The record and the word of an address of a table with eight words a record (9.3). -/
theorem tableAddress_eq {a : Word} {i : Fin 64} {k : Fin 8} (h : a.toNat = 8 * i.val + k.val) :
    recordOf a = i ∧ wordOf a = k := by
  obtain ⟨hrecord, hword⟩ := tableAddress_parts a (by omega)
  exact ⟨Fin.ext (by omega), Fin.ext (by omega)⟩

/-! ### The staged bank -/

/-- One word of a bank is replaced and no other (R13). -/
theorem setWord_word (b : Bank) (a w : Word) (i : Fin 64) (k : Fin 8) :
    ((b.setWord a w)[i]).word k = if recordOf a = i ∧ wordOf a = k then w else (b[i]).word k := by
  simp only [Bank.setWord, Entry.word, Entry.setWord, Fin.getElem_fin, Vector.getElem_set, Fin.ext_iff]
  by_cases hr : (recordOf a).val = i.val
  · by_cases hw : (wordOf a).val = k.val <;> simp [hr, hw]
  · simp [hr]

theorem writeStaged_of_frozen {s : State} (h : s.ctrl.commitPending = true) (v : Word) :
    writeStaged v s = refuseWrite .bankFrozen 0x0D s := if_pos h

/-- A change of the staged bank reaches the two banks alone (R11). -/
theorem setStagedBank_frame (b : Bank) (s : State) : setStagedBank b s =
    { s with bankA := (setStagedBank b s).bankA, bankB := (setStagedBank b s).bankB } := by
  unfold setStagedBank
  split <;> rfl

/-- Settles O39: one word of the staged bank, or the refusal by table, state and address. -/
theorem stagedBankWrite : Obligations.StagedBankWrite := by
  intro v s hs
  rw [exec_stagedBankWrite hs]
  refine ⟨fun ht ha hp => ?_, fun ht ha hp => ?_, fun ht ha => ?_, fun ht ha => ?_, fun c t hc h => ?_,
    fun i k a ha => ?_⟩
  · refine ⟨_, rfl, ?_, ?_, fun i k => ?_⟩
    · rw [writeTableData_staged_editable ht ha hp, advanceTable, setStagedBank_frame]
    · rw [writeTableData_staged_editable ht ha hp]
      exact setStagedBank_active _ s
    · rw [writeTableData_staged_editable ht ha hp]
      have hstaged : stagedBank (advanceTable (setStagedBank ((stagedBank s).setWord s.window.tableAddr v) s)) =
          (stagedBank s).setWord s.window.tableAddr v := setStagedBank_staged _ s
      obtain ⟨hrecord, hword⟩ := tableAddress_parts s.window.tableAddr ha
      rw [hstaged, setWord_word]
      refine if_congr ?_ rfl rfl
      rw [Fin.ext_iff, Fin.ext_iff]
      omega
  · rw [writeTableData_of_inside ht v ha]
    exact congrArg _ (writeStaged_of_frozen hp v)
  · rw [writeTableData_of_inside ht v ha]
    rfl
  · rcases ht with ht | ht <;> rw [writeTableData_of_outside ht v ha]
  · obtain ⟨m, l, w, hframe⟩ := exec_port_frame hc s
    rw [stateOf_of_next h] at hframe
    rw [hframe]
    exact ⟨rfl, rfl⟩
  · obtain ⟨rfl, rfl⟩ := tableAddress_eq ha
    exact ⟨rfl, rfl⟩

/-! ### Slot and source configurations -/

theorem writeSlotConfig_eq {s : State} {v : Word} {i : Fin 64} {k : Fin 8} {c : SlotConfig}
    (ha : s.window.tableAddr.toNat = 8 * i.val + k.val) (h : (s.limits[i]).setWord k v = some c) :
    writeSlotConfig v s = { s with
      limits := s.limits.set i.val c i.isLt
      window := { s.window with tableAddr := s.window.tableAddr + 1 } } := by
  obtain ⟨rfl, rfl⟩ := tableAddress_eq ha
  simp only [writeSlotConfig, h]
  rfl

theorem writeSlotConfig_of_none {s : State} {v : Word} {i : Fin 64} {k : Fin 8}
    (ha : s.window.tableAddr.toNat = 8 * i.val + k.val) (h : (s.limits[i]).setWord k v = none) :
    writeSlotConfig v s = refuseWrite .badValue 0x0D s := by
  obtain ⟨rfl, rfl⟩ := tableAddress_eq ha
  simp only [writeSlotConfig, h]

theorem levelField_eq_zero (v : Word) : field v 4 3 = 0 ↔ v.toNat / 16 % 8 = 0 := by
  rw [← BitVec.toNat_inj, field_toNat]
  simp

theorem levelField_eq (v : Word) : field v 4 3 = BitVec.ofNat 3 (v.toNat / 16) := by
  rw [← BitVec.toNat_inj, field_toNat, BitVec.toNat_ofNat]
  rfl

theorem sourceOfAddr {a : Word} {n : Fin 16} (h : a.toNat = n.val) : (field a 0 4).toFin = n := by
  refine Fin.ext ?_
  rw [BitVec.val_toFin, field_toNat]
  omega

/-- Settles O40: the fields of one word, or BAD_VALUE, or TABLE_RANGE. -/
theorem slotAndSourceConfigWrite : Obligations.SlotAndSourceConfigWrite := by
  intro v s hs
  rw [exec_slotConfigWrite hs, exec_sourceConfigWrite hs]
  refine ⟨fun i k old new ht ha hold hnew => ?_, fun i ht ha hv => ?_, fun n ht ha => ⟨fun hv => ?_, fun hv => ?_⟩,
    fun ht ha => ?_, fun ht ha => ?_⟩
  · subst hold
    have hset : ∃ hk : k < 8, (s.limits[i]).setWord ⟨k, hk⟩ v = some new := by
      rcases hnew with ⟨rfl, rfl⟩ | ⟨rfl, rfl⟩ | ⟨rfl, rfl⟩ | ⟨rfl, rfl⟩ | ⟨rfl, rfl⟩ | ⟨rfl, hv, rfl⟩ | ⟨rfl, rfl⟩ |
        ⟨rfl, rfl⟩
      case inr.inr.inr.inr.inr.inl =>
        have hbit : ¬ v.getLsbD 15 = true := by
          rw [topBit_iff]
          omega
        refine ⟨by omega, ?_⟩
        simp only [SlotConfig.setWord, if_neg hbit, joinWords]
      all_goals exact ⟨by omega, rfl⟩
    obtain ⟨hk, hset⟩ := hset
    rw [writeTableData_of_inside ht v (by rw [ha, Table.size]; omega)]
    exact congrArg _ (writeSlotConfig_eq ha hset)
  · rw [writeTableData_of_inside ht v (by rw [ha, Table.size]; omega)]
    exact congrArg _ (writeSlotConfig_of_none (k := 5) ha (if_pos ((topBit_iff v).2 hv)))
  · rw [writeTableData_of_inside ht v (by rw [ha]; exact n.isLt)]
    have hlevel : field v 4 3 ≠ 0 := fun h => hv ((levelField_eq_zero v).1 h)
    simp only [portWrite, writeSourceConfig, sourceConfigOfWord, if_neg hlevel, sourceOfAddr ha]
    rw [levelField_eq]
    rfl
  · rw [writeTableData_of_inside ht v (by rw [ha]; exact n.isLt)]
    simp only [portWrite, writeSourceConfig, sourceConfigOfWord, if_pos ((levelField_eq_zero v).2 hv)]
  · rw [writeTableData_of_outside ht v ha]
  · rw [writeTableData_of_outside ht v ha]

/-! ### Lane configurations -/

theorem writeLaneConfig_of_busy {s : State} (h : s.ctrl.state ≠ .stopped) (v : Word) :
    writeLaneConfig v s = refuseWrite .configBusy 0x0D s := if_neg h

/-- The lane and the word of an address of table 3 (R49). -/
theorem laneAddress_eq {a : Word} {n k : Fin 4} (h : a.toNat = 4 * n.val + k.val) :
    laneOfAddr a = n ∧ (field a 0 2).toFin = k := by
  constructor <;> refine Fin.ext ?_
  · rw [laneOfAddr, BitVec.val_toFin, field_toNat]
    omega
  · rw [BitVec.val_toFin, field_toNat]
    omega

section
variable {s : State} {v : Word} {n k : Fin 4} (ha : s.window.tableAddr.toNat = 4 * n.val + k.val)
include ha

theorem writeLaneConfig_of_none (h : s.ctrl.state = .stopped) (hc : (s.lanes[n]).cfg.setWord k v = none) :
    writeLaneConfig v s = refuseWrite .badValue 0x0D s := by
  obtain ⟨rfl, rfl⟩ := laneAddress_eq ha
  simp only [writeLaneConfig, if_pos h, hc]

theorem writeLaneConfig_eq (h : s.ctrl.state = .stopped) {c : LaneConfig}
    (hc : (s.lanes[n]).cfg.setWord k v = some c) : writeLaneConfig v s = { s with
      lanes := s.lanes.set n.val ((s.lanes[n]).configure c) n.isLt
      window := { s.window with tableAddr := s.window.tableAddr + 1 } } := by
  obtain ⟨rfl, rfl⟩ := laneAddress_eq ha
  simp only [writeLaneConfig, if_pos h, hc]
  rfl

end

theorem readyInputOfCode_field {v : Word} {r : ReadyInput} (h : v.toNat / 256 % 4 = r.code.toNat) :
    readyInputOfCode (field v 8 2) = some r := by
  have hcode : field v 8 2 = r.code := by
    rw [← BitVec.toNat_inj, field_toNat]
    exact h
  rw [hcode]
  cases r <;> rfl

theorem low_field (v : Word) {n : Nat} (h : n ≤ 16) : field v 0 n = v.setWidth n :=
  (BitVec.setWidth_eq_extractLsb' h).symm

theorem dividerValid_iff (v : Word) : dividerValid (v.setWidth 11) = true ↔
    2 ≤ v.toNat % 2048 ∧ v.toNat % 2048 ≤ 1024 ∧ v.toNat % 2 = 0 := by
  simp only [dividerValid, Bool.and_eq_true, decide_eq_true_iff, BitVec.toNat_setWidth]
  omega

theorem configure_of_same {l : Lane} {c : LaneConfig} (h : c.enable = l.cfg.enable) :
    l.configure c = { l with cfg := c } := if_pos h

theorem configure_of_changed {l : Lane} {c : LaneConfig} {on : Bool} (hc : c.enable = on)
    (hl : l.cfg.enable = !on) :
    l.configure c = { cfg := c, phase := if on then .idle else .disabled, queue := [] } := by
  subst hc
  exact if_neg (by rw [hl]; exact (Bool.not_ne_self _).symm)

/-! A word of a lane configuration by its number (R49, R51) -/

section
variable (c : LaneConfig) {v : Word}

theorem setWord_flags {r : ReadyInput} (h : v.toNat / 256 % 4 = r.code.toNat) : c.setWord 0 v = some { c with
    clockMode := v.setWidth 2, lsbFirst := v.getLsbD 2, selectActiveHigh := v.getLsbD 3
    fillBit := v.getLsbD 4, loopback := v.getLsbD 5, responseCheck := v.getLsbD 6
    haltOnFault := v.getLsbD 7, ready := r } := by
  simp [LaneConfig.setWord, readyInputOfCode_field h, low_field]

theorem setWord_badReady (h : v.toNat / 256 % 4 = 3) : c.setWord 0 v = none := by
  have hcode : field v 8 2 = 3 := BitVec.eq_of_toNat_eq ((field_toNat v 8 2).trans h)
  simp [LaneConfig.setWord, hcode, readyInputOfCode]

theorem setWord_timeout (h : v.toNat % 4096 ≠ 0) :
    c.setWord 1 v = some { c with readyTimeout := v.setWidth 12 } := by
  have hne : field v 0 12 ≠ 0 := fun e => h (by
    have := congrArg BitVec.toNat e
    rw [field_toNat] at this
    simpa using this)
  rw [← low_field v (by omega)]
  exact if_neg hne

theorem setWord_badTimeout (h : v.toNat % 4096 = 0) : c.setWord 1 v = none := by
  have hzero : field v 0 12 = 0 := BitVec.eq_of_toNat_eq (by rw [field_toNat]; simpa using h)
  simp [LaneConfig.setWord, hzero]

theorem setWord_gap (v : Word) : c.setWord 2 v = some { c with gap := v.setWidth 8 } := by
  simp [LaneConfig.setWord, low_field]

theorem setWord_divider (h : 2 ≤ v.toNat % 2048 ∧ v.toNat % 2048 ≤ 1024 ∧ v.toNat % 2 = 0) :
    c.setWord 3 v = some { c with divider := v.setWidth 11, enable := v.getLsbD 15 } := by
  simp [LaneConfig.setWord, low_field, (dividerValid_iff v).2 h]

theorem setWord_badDivider (h : v.toNat % 2048 = 0 ∨ 1024 < v.toNat % 2048 ∨ v.toNat % 2 = 1) :
    c.setWord 3 v = none := by
  have hbad : dividerValid (v.setWidth 11) = false := Bool.eq_false_iff.2 fun e => by
    have := (dividerValid_iff v).1 e
    omega
  simp [LaneConfig.setWord, low_field, hbad]

end

/-- Settles O41: busy before bad, and the enable rule. -/
theorem laneConfigWrite : Obligations.LaneConfigWrite := by
  refine ⟨fun v s hs ht ha => ?_, ?_⟩
  · rw [exec_laneConfigWrite hs, writeTableData_of_outside ht v ha]
  rintro v s n k l hs ht ha rfl
  rw [exec_laneConfigWrite hs]
  have hinside (hk : k < 4) : writeTableData v s = writeLaneConfig v s :=
    writeTableData_of_inside ht v (by rw [ha, Table.size]; omega)
  refine ⟨fun hk hst => ?_, fun hst hbad => ?_, fun hst new hnew => ?_⟩
  · rw [hinside hk, writeLaneConfig_of_busy hst]
  · have hset : ∃ hk : k < 4, (s.lanes[n]).cfg.setWord ⟨k, hk⟩ v = none := by
      rcases hbad with ⟨rfl, hv⟩ | ⟨rfl, hv⟩ | ⟨rfl, hv⟩
      · exact ⟨by omega, setWord_badReady _ hv⟩
      · exact ⟨by omega, setWord_badTimeout _ hv⟩
      · exact ⟨by omega, setWord_badDivider _ hv⟩
    obtain ⟨hk, hset⟩ := hset
    rw [hinside hk, writeLaneConfig_of_none (k := ⟨k, hk⟩) ha hst hset]
  · have hset : ∃ (hk : k < 4) (c : LaneConfig), (s.lanes[n]).cfg.setWord ⟨k, hk⟩ v = some c ∧
        (s.lanes[n]).configure c = new := by
      rcases hnew with ⟨rfl, r, hr, rfl⟩ | ⟨rfl, hv, rfl⟩ | ⟨rfl, rfl⟩ | ⟨rfl, hlow, hhigh, heven, hrule⟩
      · exact ⟨by omega, _, setWord_flags _ hr, configure_of_same rfl⟩
      · exact ⟨by omega, _, setWord_timeout _ hv, configure_of_same rfl⟩
      · exact ⟨by omega, _, setWord_gap _ v, configure_of_same rfl⟩
      · refine ⟨by omega, _, setWord_divider _ ⟨hlow, hhigh, heven⟩, ?_⟩
        rcases hrule with ⟨hsame, rfl⟩ | ⟨hon, hoff, rfl⟩ | ⟨hoff, hon, rfl⟩
        · rw [hsame]
          exact configure_of_same rfl
        · rw [hon]
          exact configure_of_changed rfl hoff
        · rw [hoff]
          exact configure_of_changed rfl hon
    obtain ⟨hk, c, hset, rfl⟩ := hset
    rw [hinside hk, writeLaneConfig_eq (k := ⟨k, hk⟩) ha hst hset]

/-! ### Registers by address -/

/-- Settles O44: the read-only registers and tables refuse, the two others store. -/
theorem registerWrite : Obligations.RegisterWrite := by
  intro v s hs
  refine ⟨fun a ha => ?_, fun ht ha => ?_, running_eq_next hs _, ?_⟩
  · rw [exec_registerWrite hs]
    simp only [List.mem_cons, List.not_mem_nil, or_false] at ha
    rcases ha with rfl | rfl | rfl | rfl | rfl | rfl | rfl | rfl | rfl | rfl | rfl | rfl | rfl | rfl | rfl | rfl |
      rfl <;> rfl
  · rw [exec_registerWrite hs]
    rw [wordsOf_eq] at ha
    have hdata : writeRegister 0x0D v s = writeTableData v s := rfl
    rw [hdata, writeTableData_of_inside rfl v ha]
    rcases ht with ht | ht | ht <;> rw [ht] <;> rfl
  · have hmode : field v 1 2 = BitVec.ofNat 2 (v.toNat / 2) :=
      BitVec.eq_of_toNat_eq (by rw [field_toNat, BitVec.toNat_ofNat]; rfl)
    rw [exec_registerWrite hs, ← hmode]
    rfl

end Sys2Proof.Machine
end

section
/-! Proofs about the words that reads return and the bytes that the mirror port sends (9.2, 9.3, 11.1 to 11.3). -/

namespace Sys2Proof.Machine

/-! ### Fields side by side -/

theorem append_toNat {m n : Nat} (x : BitVec m) (y : BitVec n) : (x ++ y).toNat = x.toNat * 2 ^ n + y.toNat := by
  rw [BitVec.toNat_append, ← Nat.shiftLeft_add_eq_or_of_lt y.isLt, Nat.shiftLeft_eq]

theorem flag_toNat (b : Bool) : (flag b).toNat = b.toNat := by cases b <;> rfl

theorem ofFin_toNat {w : Nat} (i : Fin (2 ^ w)) : (BitVec.ofFin (w := w) i).toNat = i.val := rfl

theorem zeros_toNat (w : Nat) : (0#w).toNat = 0 := BitVec.toNat_zero

/-- A 32-bit field from its words (R95, R178). -/
theorem words_append (v : Value) : highWord v ++ lowWord v = v := by
  apply BitVec.eq_of_toNat_eq
  rw [append_toNat, highWord_toNat, lowWord_toNat]
  omega

/-! ### The words of tables 2 to 6 -/

section
variable (s : State)

theorem tableWord_slotConfig (i : Fin 64) (k : Fin 8) :
    tableWord .slotConfig (BitVec.ofNat 16 (8 * i.val + k.val)) s = (s.limits[i]).word k := by
  obtain ⟨hrecord, hword⟩ := tableAddress_eq (a := BitVec.ofNat 16 (8 * i.val + k.val)) (i := i) (k := k)
    (by rw [BitVec.toNat_ofNat]; omega)
  simp only [tableWord, hrecord, hword]

theorem tableWord_laneConfig (n k : Fin 4) :
    tableWord .laneConfig (BitVec.ofNat 16 (4 * n.val + k.val)) s = (s.lanes[n]).cfg.word k := by
  obtain ⟨hlane, hword⟩ := laneAddress_eq (a := BitVec.ofNat 16 (4 * n.val + k.val)) (n := n) (k := k)
    (by rw [BitVec.toNat_ofNat]; omega)
  simp only [tableWord, hword]
  exact congrArg (fun m : Fin 4 => (s.lanes[m]).cfg.word k) hlane

theorem tableWord_sourceConfig (n : Fin 16) :
    tableWord .sourceConfig (BitVec.ofNat 16 n.val) s = (s.events.sources[n]).word := by
  have hsource := sourceOfAddr (a := BitVec.ofNat 16 n.val) (n := n) (by rw [BitVec.toNat_ofNat]; omega)
  simp only [tableWord, hsource]

theorem tableWord_reports (k : Fin 8) :
    tableWord .reports (BitVec.ofNat 16 k.val) s = s.ctrl.current.word k ∧
      tableWord .reports (BitVec.ofNat 16 (8 + k.val)) s = s.ctrl.last.word k := by
  fin_cases k <;> exact ⟨rfl, rfl⟩

end

theorem slotConfig_flags (c : SlotConfig) : (c.word 6).toNat = c.limitEnable.toNat + 2 * c.highAlert.toNat +
    4 * c.lowAlert.toNat + 8 * c.returnAlert.toNat + 16 * c.faultAlert.toNat + 32 * c.watch.toNat := by
  simp only [SlotConfig.word, Fin.coe_ofNat_eq_mod, Nat.reduceMod, append_toNat, flag_toNat, zeros_toNat]
  omega

theorem laneConfig_words (c : LaneConfig) :
    (c.word 0).toNat = c.clockMode.toNat + 4 * c.lsbFirst.toNat + 8 * c.selectActiveHigh.toNat +
      16 * c.fillBit.toNat + 32 * c.loopback.toNat + 64 * c.responseCheck.toNat +
      128 * c.haltOnFault.toNat + 256 * c.ready.code.toNat ∧
    (c.word 1).toNat = c.readyTimeout.toNat ∧ (c.word 2).toNat = c.gap.toNat ∧
    (c.word 3).toNat = c.divider.toNat + 32768 * c.enable.toNat := by
  simp only [LaneConfig.word, Fin.coe_ofNat_eq_mod, Nat.reduceMod, append_toNat, flag_toNat, zeros_toNat]
  omega

theorem sourceConfig_word (c : SourceConfig) : c.word.toNat = c.masked.toNat + 16 * c.level.toNat := by
  simp only [SourceConfig.word, append_toNat, flag_toNat, zeros_toNat]
  omega

theorem countField_toNat {n : Nat} (h : n ≤ 64) : (countField n).toNat = n := by
  rw [countField, BitVec.toNat_ofNat]
  omega

theorem countPair_toNat {hi lo : Nat} (hhi : hi ≤ 64) (hlo : lo ≤ 64) : (countPair hi lo).toNat = lo + 256 * hi := by
  simp only [countPair, append_toNat, countField_toNat hhi, countField_toNat hlo, zeros_toNat]
  omega

theorem report_outcomeWord {r : FrameReport} (h : r.due ≤ 64) :
    (r.word 1).toNat = r.outcome.code.toNat + 256 * r.due := by
  simp only [FrameReport.word, Fin.coe_ofNat_eq_mod, Nat.reduceMod, append_toNat, countField_toNat h, zeros_toNat]
  omega

theorem schedErrorWord1_toNat {c : Ctrl} {r : ScheduleError} (h : c.schedError = some r) :
    c.schedErrorWord1.toNat = r.index.val + 256 * r.reason.code.toNat + 32768 * c.schedRepeat.toNat := by
  simp only [Ctrl.schedErrorWord1, h, append_toNat, flag_toNat, zeros_toNat, ofFin_toNat]
  omega

theorem errorWord_toNat {m : Mirror} {r : MirrorErrorRecord} (h : m.error = some r) :
    m.errorWord.toNat = r.error.code.toNat + 4 * r.command.isSome.toNat + 8 * m.errorRepeat.toNat +
      256 * (r.command.getD 0).toNat := by
  simp only [Mirror.errorWord, h, append_toNat, flag_toNat, zeros_toNat]
  omega

theorem accessDetailWord_toNat {w : Window} {r : AccessRecord} (h : w.accessError = some r) :
    w.accessDetailWord.toNat = r.tableAddrLow.toNat + 8192 * r.tableSel.code.toNat := by
  simp only [Window.accessDetailWord, h, append_toNat]
  omega

/-! ### A read of TABLE_DATA -/

section
variable {s : State}

theorem hostRead_tableRead_of_inside (h : s.window.tableAddr.toNat < wordsOf s.window.tableSel)
    (hlatch : ¬ (s.window.tableSel = .latches ∧ s.window.tableAddr = 2)) :
    hostRead 0x0D tableRead s = { s with window := { s.window with
      tableAddr := s.window.tableAddr + 1
      lastRead := some (tableWord s.window.tableSel s.window.tableAddr s) } } := by
  rw [wordsOf_eq] at h
  have hrange := (tableInRange_iff s).2 h
  have hword : registerWord 0x0D s = tableWord s.window.tableSel s.window.tableAddr s := if_pos hrange
  have hread : tableRead s = advanceTable s := by
    refine (if_pos hrange).trans (congrArg advanceTable (if_neg ?_))
    rwa [Bool.and_eq_true, decide_eq_true_iff, decide_eq_true_iff]
  simp only [hostRead, hread, hword]
  rfl

theorem hostRead_tableRead_of_latch (ht : s.window.tableSel = .latches) (ha : s.window.tableAddr = 2) :
    hostRead 0x0D tableRead s = { s with
      mirror := { s.mirror with error := none, errorRepeat := false }
      window := { s.window with tableAddr := 3, lastRead := some (tableWord .latches 2 s) } } := by
  have hrange : tableInRange s = true := (tableInRange_iff s).2 (by rw [ht, ha]; decide)
  have hword : registerWord 0x0D s = tableWord .latches 2 s := by
    refine (if_pos hrange).trans ?_
    rw [ht, ha]
  have hread : tableRead s = advanceTable (setMirror s.mirror.emptyError s) :=
    (if_pos hrange).trans (congrArg advanceTable (if_pos (by simp [ht, ha])))
  simp only [hostRead, hread, hword, advanceTable, setMirror, ha]
  rfl

theorem hostRead_tableRead_of_outside (h : wordsOf s.window.tableSel ≤ s.window.tableAddr.toNat) :
    hostRead 0x0D tableRead s = { accessError .tableRange 0x0D false s with
      window := { (accessError .tableRange 0x0D false s).window with lastRead := some 0 } } := by
  rw [wordsOf_eq] at h
  have hrange : ¬ tableInRange s = true := by
    rw [tableInRange_iff]
    exact Nat.not_lt.2 h
  have hword : registerWord 0x0D s = 0 := if_neg hrange
  have hread : tableRead s = accessError .tableRange 0x0D false s := if_neg hrange
  simp only [hostRead, hread, hword]

end

/-- Settles O37: the read by its address, and the words table by table. -/
theorem tableDataRead : Obligations.TableDataRead := by
  refine ⟨fun s hs => ?_, fun s word hword => ⟨?_, ?_, fun n => ?_, ?_, ?_⟩⟩
  · rw [exec_tableDataRead hs]
    exact ⟨fun h hlatch => congrArg _ (hostRead_tableRead_of_inside h hlatch),
      fun ht ha => congrArg _ (hostRead_tableRead_of_latch ht ha),
      fun h => congrArg _ (hostRead_tableRead_of_outside h)⟩
  · rintro i c w rfl hw
    have hk (k : Fin 8) : w k.val = (s.limits[i]).word k := by rw [hw, hword, tableWord_slotConfig]
    rw [show w 0 = _ from hk 0, show w 1 = _ from hk 1, show w 2 = _ from hk 2, show w 3 = _ from hk 3,
      show w 4 = _ from hk 4, show w 5 = _ from hk 5, show w 6 = _ from hk 6, show w 7 = _ from hk 7]
    exact ⟨words_append _, words_append _, words_append _, slotConfig_flags _, rfl⟩
  · rintro n c w rfl hw
    have hk (k : Fin 4) : w k.val = (s.lanes[n]).cfg.word k := by rw [hw, hword, tableWord_laneConfig]
    rw [show w 0 = _ from hk 0, show w 1 = _ from hk 1, show w 2 = _ from hk 2, show w 3 = _ from hk 3]
    exact laneConfig_words _
  · rw [hword, tableWord_sourceConfig, sourceConfig_word]
  · intro r w hw hcount
    have hk (k : Fin 8) : w k.val = r.word k := by
      obtain ⟨hcurrent, hlast⟩ := tableWord_reports s k
      rcases hw with ⟨rfl, hw⟩ | ⟨rfl, hw⟩
      · rw [hw, hword, hcurrent]
      · rw [hw, hword, hlast]
    simp only [List.mem_cons, List.not_mem_nil, or_false, forall_eq_or_imp, forall_eq] at hcount
    obtain ⟨hdue, hissued, hcompleted, hfaulted, hskipped, haborted, hgate, hrejected⟩ := hcount
    rw [show w 0 = _ from hk 0, show w 1 = _ from hk 1, show w 2 = _ from hk 2, show w 3 = _ from hk 3,
      show w 4 = _ from hk 4, show w 5 = _ from hk 5, show w 6 = _ from hk 6, show w 7 = _ from hk 7]
    exact ⟨rfl, report_outcomeWord hdue, countPair_toNat hcompleted hissued, countPair_toNat hskipped hfaulted,
      countPair_toNat hgate haborted, countPair_toNat (Nat.zero_le _) hrejected, rfl, rfl⟩
  · intro w hw
    have hk (k : Nat) : w k = tableWord .latches (BitVec.ofNat 16 k) s := by rw [hw, hword]
    have h0 : w 0 = s.ctrl.schedErrorWord0 := hk 0
    have h1 : w 1 = s.ctrl.schedErrorWord1 := hk 1
    have h2 : w 2 = s.mirror.errorWord := hk 2
    have h3 : w 3 = s.window.accessDetailWord := hk 3
    rw [h0, h1, h2, h3]
    refine ⟨fun h => ?_, fun r h => ⟨?_, schedErrorWord1_toNat h⟩, fun h => ?_, fun r h => ⟨fun b hb => ?_, fun hb => ?_⟩,
      accessDetailWord_of_empty, fun r h => accessDetailWord_toNat h, hk 4, hk 5, hk 6, hk 7⟩
    · simp only [Ctrl.schedErrorWord0, Ctrl.schedErrorWord1, h, and_self]
    · simp only [Ctrl.schedErrorWord0, h]
    · simp only [Mirror.errorWord, h]
    · rw [errorWord_toNat h, hb]
      rfl
    · rw [errorWord_toNat h, hb]
      rfl

end Sys2Proof.Machine
end

section
/-! Proofs about the registers (9.2, 11.1): what a host read of each returns. -/

namespace Sys2Proof.Machine

/-! ### The words of the registers, field by field -/

theorem stateWord_toNat (c : Ctrl) : c.stateWord.toNat = c.state.code.toNat + 4 * c.walker.code.toNat +
    32 * c.stopPending.toNat + 64 * c.deferred.toNat + 128 * c.commitPending.toNat + 256 * c.active.code.toNat := by
  simp only [Ctrl.stateWord, append_toNat, flag_toNat, zeros_toNat]
  omega

theorem resultWord_toNat (w : Window) : w.resultWord.toNat = w.result.code.toNat + 256 * w.resultIndex.val := by
  simp only [Window.resultWord, append_toNat, zeros_toNat, ofFin_toNat]
  omega

theorem accessErrorWord_toNat {w : Window} {r : AccessRecord} (h : w.accessError = some r) :
    w.accessErrorWord.toNat = r.error.code.toNat + 16 * r.addr.toNat + 512 * r.isWrite.toNat +
      32768 * w.accessRepeat.toNat := by
  simp only [Window.accessErrorWord, h, append_toNat, flag_toNat, zeros_toNat]
  omega

theorem modeWord_toNat (t : Timebase) : t.modeWord.toNat = t.mode.code.toNat + 4 * t.fallingEdge.toNat +
    8 * t.deferPolicy.toNat + 32768 * t.counting.toNat := by
  simp only [Timebase.modeWord, append_toNat, flag_toNat, zeros_toNat]
  omega

theorem selWord_toNat (t : SampleTable) : t.selWord.toNat = t.selSlot.val + 32768 * t.selConsume.toNat := by
  simp only [SampleTable.selWord, append_toNat, flag_toNat, zeros_toNat, ofFin_toNat]
  omega

theorem statusWord_toNat (t : SampleTable) : t.statusWord.toNat = t.latchIndex.val + 64 * t.latch.status.code.toNat +
    256 * (faultKindCode t.latch.faultKind).toNat + 1024 * t.latch.limit.code.toNat +
    4096 * t.latch.overwrite.toNat := by
  simp only [SampleTable.statusWord, append_toNat, flag_toNat, zeros_toNat, ofFin_toNat]
  omega

theorem ctrlWord_toNat (q : AlertQueue) : q.ctrlWord.toNat = q.records.length % 32 + 32 * q.lost.toNat +
    64 * q.hostAck.code.toNat + 256 * q.hostLatch.serial.toNat := by
  simp only [AlertQueue.ctrlWord, append_toNat, flag_toNat, BitVec.toNat_ofNat]
  omega

theorem word0_eq (r : AlertRecord) : r.word0 = BitVec.ofNat 16 (r.kind.code.toNat + 8 * r.slot.val) := by
  apply BitVec.eq_of_toNat_eq
  simp only [AlertRecord.word0, append_toNat, ofFin_toNat, BitVec.toNat_ofNat]
  omega

theorem serviceWord_toNat {e : Events} {top : ServiceEntry} {rest : List ServiceEntry} (h : e.stack = top :: rest)
    (hdepth : rest.length ≤ 6) :
    e.serviceWord.toNat = rest.length + 1 + 16 * top.level.toNat + 256 * top.source.val := by
  have hlength : (BitVec.ofNat 3 e.stack.length).toNat = rest.length + 1 := by
    rw [BitVec.toNat_ofNat, h, List.length_cons]
    omega
  simp only [Events.serviceWord, h] at hlength ⊢
  simp only [append_toNat, hlength, zeros_toNat, ofFin_toNat]
  omega

theorem pendingWord_getLsbD (s : State) (n : Fin 16) : (pendingWord s).getLsbD n.val = isPending s n := by
  simp only [pendingWord, isPending]
  split
  next h =>
    rw [setBit_getLsbD]
    by_cases hn : n = srcAlertReady <;> simp [hn, h]
  next h =>
    rw [clearBit_getLsbD]
    by_cases hn : n = srcAlertReady <;> simp [hn, h]

theorem laneStatusWord_toNat (l : Vector Lane 4) : (laneStatusWord l).toNat = l[0].phase.code.toNat +
    8 * l[1].phase.code.toNat + 64 * l[2].phase.code.toNat + 512 * l[3].phase.code.toNat := by
  simp only [laneStatusWord, append_toNat, zeros_toNat]
  omega

/-- The three bits of each lane (R121). -/
theorem laneStatusWord_phase (l : Vector Lane 4) (n : Fin 4) :
    (laneStatusWord l).toNat / 8 ^ n.val % 8 = (l[n]).phase.code.toNat := by
  rw [laneStatusWord_toNat]
  match n with
  | 0 => show _ / 1 % 8 = (l[0]).phase.code.toNat; omega
  | 1 => show _ / 8 % 8 = (l[1]).phase.code.toNat; omega
  | 2 => show _ / 64 % 8 = (l[2]).phase.code.toNat; omega
  | 3 => show _ / 512 % 8 = (l[3]).phase.code.toNat; omega

theorem mirrorConfig_word (c : MirrorConfig) : c.word.toNat = c.enable.toNat + 2 * c.clockMode.toNat := by
  simp only [MirrorConfig.word, append_toNat, flag_toNat, zeros_toNat]
  omega

theorem noteWord_toNat (m : Mirror) :
    m.noteWord.toNat = m.note.toNat + 256 * m.unread.toNat + 512 * m.overwrite.toNat := by
  simp only [Mirror.noteWord, append_toNat, flag_toNat, zeros_toNat]
  omega

/-! ### Accesses -/

section
variable {s : State} (hs : Running s)
include hs

theorem dataBus_of_running (a : BitVec 5) : dataBus (some a) s = some (registerWord a s) :=
  if_neg (Bool.eq_false_iff.1 hs)

theorem exec_hostAlertPeek : exec .hostAlertPeek s = .next (hostRead 0x13 peekAlert s) := running_eq_next hs _

theorem exec_mirrorNoteRead : exec .mirrorNoteRead s = .next (hostRead 0x1F readNote s) := running_eq_next hs _

theorem exec_alertAck (v : Word) : exec (.alertAck v) s = .next (writeAlertAck v s) := running_eq_next hs _

end

/-- Settles O38: the bus carries the register's word, each word holds its fields, each value its code. -/
theorem registerWords : Obligations.RegisterWords := by
  refine ⟨fun s => ⟨fun h read => if_pos h, by simp [dataBus], fun hs => ⟨dataBus_of_running hs, ?_⟩⟩, ?_,
    rfl, rfl, rfl, rfl, rfl, rfl, rfl, rfl, rfl, rfl, rfl, rfl, rfl, rfl, rfl, rfl, fun it k o => rfl⟩
  · intro c a hc
    simp only [List.mem_cons, List.not_mem_nil, or_false, Prod.mk.injEq] at hc
    rcases hc with ⟨rfl, rfl⟩ | ⟨rfl, rfl⟩ | ⟨rfl, rfl⟩ | ⟨rfl, rfl⟩
    · exact ⟨_, exec_evClaim hs, (dataBus_of_running hs _).symm⟩
    · exact ⟨_, exec_hostAlertPeek hs, (dataBus_of_running hs _).symm⟩
    · exact ⟨_, exec_mirrorNoteRead hs, (dataBus_of_running hs _).symm⟩
    · exact ⟨_, exec_tableDataRead hs, (dataBus_of_running hs _).symm⟩
  · intro s word hword
    obtain rfl : word = fun a => registerWord a s := funext hword
    refine ⟨⟨rfl, stateWord_toNat _, resultWord_toNat _, rfl⟩,
      ⟨accessErrorWord_of_empty, fun r h => accessErrorWord_toNat h⟩,
      ⟨rfl, ?_, modeWord_toNat _, rfl, rfl, rfl⟩, ⟨?_, rfl, fun h => ?_, fun h => ?_⟩,
      ⟨selWord_toNat _, statusWord_toNat _, words_append _, rfl⟩,
      ⟨rfl, words_append _, fun h => ?_⟩,
      ⟨pendingWord_getLsbD s, fun h => ?_, fun top rest h hdepth => serviceWord_toNat h hdepth, rfl⟩,
      fun n => ?_, ?_, mirrorConfig_word _, noteWord_toNat _⟩
    · exact BitVec.toNat_setWidth_of_le (by omega)
    · exact BitVec.toNat_setWidth_of_le (by omega)
    · exact if_pos ((tableInRange_iff s).2 (wordsOf_eq _ ▸ h))
    · refine if_neg ?_
      rw [tableInRange_iff, ← wordsOf_eq]
      exact Nat.not_lt.2 h
    · refine (ctrlWord_toNat s.alerts).trans ?_
      rw [Nat.mod_eq_of_lt (by omega)]
    · show s.events.serviceWord = 0xFF00
      simp only [Events.serviceWord, h]
    · exact laneStatusWord_phase s.lanes n
    · show (laneStatusWord s.lanes).toNat < 4096
      rw [laneStatusWord_toNat]
      omega

end Sys2Proof.Machine
end

section
/-! Proofs about the alert queue's readers (5.4) and the mirror port's selections, notes and response bytes
(chapter 8). -/

namespace Sys2Proof.Machine

/-! ### Alerts -/

theorem byte_eq_iff (b : Byte) (v : Word) (h : v.toNat ≤ 255) : b = v.extractLsb' 0 8 ↔ b.toNat = v.toNat := by
  rw [← BitVec.toNat_inj, BitVec.extractLsb'_toNat, Nat.shiftRight_zero, Nat.mod_eq_of_lt (by omega)]

section
variable {q : AlertQueue} {serial : Byte}

/-- An acknowledgement of an empty queue, of the head, and of another record (R106). -/
theorem acknowledge_of_empty (h : q.records = []) :
    q.ackOutcome serial = .empty ∧ q.acknowledge serial = q := by
  simp only [AlertQueue.ackOutcome, AlertQueue.acknowledge, h, and_self]

variable {head : AlertRecord} {rest : List AlertRecord} (h : q.records = head :: rest)
include h

theorem acknowledge_of_head (hs : head.serial = serial) :
    q.ackOutcome serial = .accepted ∧ q.acknowledge serial = { q with records := rest } := by
  simp only [AlertQueue.ackOutcome, AlertQueue.acknowledge, h, if_pos hs, and_self]

theorem acknowledge_of_other (hs : head.serial ≠ serial) :
    q.ackOutcome serial = .stale ∧ q.acknowledge serial = q := by
  simp only [AlertQueue.ackOutcome, AlertQueue.acknowledge, h, if_neg hs, and_self]

end

theorem writeAlertAck_of_le {v : Word} (h : v.toNat ≤ 255) (s : State) : writeAlertAck v s = { s with
    alerts := { s.alerts.acknowledge (v.extractLsb' 0 8) with
      hostAck := s.alerts.ackOutcome (v.extractLsb' 0 8) } } := if_pos h

theorem ready_iff (q : AlertQueue) : q.ready = true ↔ q.records ≠ [] := by
  cases h : q.records <;> simp [AlertQueue.ready, h]

/-! ### Requests -/

/-- A request row finds its request complete (R146; log entry 8). -/
theorem receiveRequest_of_agrees {s : State} {command argument : Byte} (ht : s.mirror.transaction = .request)
    (ha : s.mirror.agrees command argument = true) : receiveRequest command argument s =
      performRequest { s with
        mirror := { s.mirror.received command argument with transaction := .response } } := by
  rw [receiveRequest, if_pos (by rw [Bool.and_eq_true, decide_eq_true_iff]; exact ⟨ht, ha⟩)]
  rfl

/-- The port with the request received, its action to come (R146). -/
def asked (command argument : Byte) (s : State) : State :=
  { s with mirror := { s.mirror.received command argument with transaction := .response } }

/-! The action of each command byte (8.3) -/

section
variable {s : State}

theorem performRequest_readSlot {command : Byte} (h : s.mirror.command = command)
    (hc : command = codeReadSlot ∨ command = codeReadRun) :
    performRequest s = mirrorReadSlot command s.mirror.argument s := by
  subst h
  rcases hc with hc | hc <;> simp [performRequest, hc]

theorem performRequest_readState (h : s.mirror.command = codeReadState) : performRequest s = mirrorReadState s := by
  simp [performRequest, h]

theorem performRequest_peekAlert (h : s.mirror.command = codePeekAlert) : performRequest s = mirrorPeekAlert s := by
  simp [performRequest, h]

theorem performRequest_ackAlert (h : s.mirror.command = codeAckAlert) :
    performRequest s = mirrorAckAlert s.mirror.argument s := by
  simp [performRequest, h]

theorem performRequest_postNote (h : s.mirror.command = codePostNote) :
    performRequest s = mirrorPostNote s.mirror.argument s := by
  simp [performRequest, h]

theorem performRequest_unknown {command : Byte} (h : s.mirror.command = command)
    (hc : command ∉ [codeReadSlot, codeReadRun, codeReadState, codePeekAlert, codeAckAlert, codePostNote]) :
    performRequest s = mirrorRefuse .unknown .unknown command s := by
  subst h
  simp only [List.mem_cons, List.not_mem_nil, or_false, not_or] at hc
  obtain ⟨h1, h2, h3, h4, h5, h6⟩ := hc
  simp only [performRequest, if_neg h1, if_neg h2, if_neg h3, if_neg h4, if_neg h5, if_neg h6]

end

theorem exec_ackAlert {s : State} {serial : Byte} (hs : Running s) (ht : s.mirror.transaction = .request)
    (ha : s.mirror.agrees codeAckAlert serial = true) :
    exec (.ackAlert serial) s = .next (mirrorAckAlert serial (asked codeAckAlert serial s)) := by
  refine (running_eq_next hs _).trans (congrArg _ ((receiveRequest_of_agrees ht ha).trans ?_))
  exact performRequest_ackAlert (s := asked codeAckAlert serial s) rfl

/-- Settles O34: the host's and the mirror's acknowledgement by the head of the queue. -/
theorem acknowledgements : Obligations.Acknowledgements := by
  intro s hs
  refine ⟨fun v hv => ⟨fun h => ?_, fun head rest h => ⟨fun hserial => ?_, fun hserial => ?_⟩⟩, fun v hv => ?_, ?_,
    ready_iff _, fun serial ht ha => ⟨fun h => ?_, fun head rest h => ⟨fun hserial => ?_, fun hserial => ?_⟩⟩⟩
  · obtain ⟨houtcome, hqueue⟩ := acknowledge_of_empty (serial := v.extractLsb' 0 8) h
    rw [exec_alertAck hs, writeAlertAck_of_le hv, houtcome, hqueue]
  · obtain ⟨houtcome, hqueue⟩ := acknowledge_of_head h ((byte_eq_iff _ v hv).2 hserial)
    rw [exec_alertAck hs, writeAlertAck_of_le hv, houtcome, hqueue]
  · obtain ⟨houtcome, hqueue⟩ := acknowledge_of_other h (mt (byte_eq_iff _ v hv).1 hserial)
    rw [exec_alertAck hs, writeAlertAck_of_le hv, houtcome, hqueue]
  · rw [exec_alertAck hs, writeAlertAck, if_neg (by omega)]
  · have hword : registerWord 0x17 s = s.alerts.ctrlWord := rfl
    have hlost := Bool.toNat_lt s.alerts.lost
    rw [hword, ctrlWord_toNat]
    omega
  · obtain ⟨houtcome, hqueue⟩ := acknowledge_of_empty (serial := serial) h
    rw [exec_ackAlert hs ht ha, mirrorAckAlert]
    simp only [asked, houtcome, hqueue]
    rfl
  · obtain ⟨houtcome, hqueue⟩ := acknowledge_of_head h hserial
    rw [exec_ackAlert hs ht ha, mirrorAckAlert]
    simp only [asked, houtcome, hqueue]
    rfl
  · obtain ⟨houtcome, hqueue⟩ := acknowledge_of_other h hserial
    rw [exec_ackAlert hs ht ha, mirrorAckAlert]
    simp only [asked, houtcome, hqueue]
    rfl

theorem look_of_cases {q : AlertQueue} {r : AlertRecord} (h : q.records = [] ∧
      r = { serial := q.nextSerial, kind := .none, slot := 0, sequence := 0, value := 0 } ∨
    ∃ rest, q.records = r :: rest) : q.look = r := by
  rcases h with ⟨h, rfl⟩ | ⟨rest, h⟩
  · rw [AlertQueue.look, h]
    rfl
  · rw [AlertQueue.look, h]
    rfl

/-- Settles O35: the peek copies the head or the marker, the post finds room or none. -/
theorem alertPeekAndPost : Obligations.AlertPeekAndPost := by
  refine ⟨fun s r hs hr => ?_, fun kind slot sequence value s => ⟨fun h => if_pos h, fun h => ?_⟩⟩
  · have hlook := look_of_cases hr
    have hword : registerWord 0x13 s = BitVec.ofNat 16 (r.kind.code.toNat + 8 * r.slot.val) := by
      rw [← word0_eq, ← hlook]
      rfl
    rw [exec_hostAlertPeek hs, hostRead, hword, peekAlert, hlook]
  · exact if_neg (Nat.not_lt.2 h)

/-! ### Errors and selections -/

theorem recordError_eq (m : Mirror) (e : MirrorError) (command : Option Byte) :
    m.recordError e command = errorLatched e command m := by
  cases h : m.error <;> simp [Mirror.recordError, errorLatched, h]

/-- Settles O45: the transaction opens with enable on, and ends with the error of the request it was in. -/
theorem selections : Obligations.Selections := by
  intro s hs
  have hassert (mclk : Bool) : exec (.mselAssert mclk) s = .next (when (fun t => !t.mirror.mselAsserted)
    (fun t => setMirror (t.mirror.assertSelect mclk) t) s) := running_eq_next hs _
  have hdeassert : exec .mselDeassert s = .next (when (fun t => t.mirror.mselAsserted)
    (fun t => setMirror t.mirror.releaseSelect t) s) := running_eq_next hs _
  refine ⟨fun mclk hoff => ⟨fun hon => ?_, fun hon => ?_⟩, fun hon closed hclosed => ?_⟩
  · rw [hassert, when, if_pos (by simp [hoff])]
    simp only [setMirror, Mirror.assertSelect, if_pos hon]
  · rw [hassert, when, if_pos (by simp [hoff])]
    simp only [setMirror, Mirror.assertSelect, hon]
    rfl
  · rw [hdeassert, when, if_pos hon]
    subst hclosed
    refine ⟨fun ht => ?_, fun ht hbits => ?_, fun ht hbits => ?_⟩
    · cases h : s.mirror.transaction with
      | request => exact absurd h ht
      | _ => simp only [setMirror, Mirror.releaseSelect, h]
    · simp only [setMirror, Mirror.releaseSelect, ht, recordError_eq, Mirror.receivedCommand, if_pos hbits]
    · simp only [setMirror, Mirror.releaseSelect, ht, recordError_eq, Mirror.receivedCommand,
        if_neg (Nat.not_lt.2 hbits)]

/-! ### The note mailbox -/

/-- Settles O47: the note is posted before its raise, and the read returns the flags it clears. -/
theorem noteMailbox : Obligations.NoteMailbox := by
  refine ⟨fun note s hs ht ha t hst => ?_, fun s hs => ⟨?_, fun v => ?_⟩⟩
  · subst hst
    refine (running_eq_next hs _).trans (congrArg _ ((receiveRequest_of_agrees ht ha).trans ?_))
    exact performRequest_postNote (s := asked codePostNote note s) rfl
  · have hword : registerWord 0x1F s = BitVec.ofNat 16
        (s.mirror.note.toNat + 256 * s.mirror.unread.toNat + 512 * s.mirror.overwrite.toNat) := by
      rw [← noteWord_toNat, BitVec.ofNat_toNat, BitVec.setWidth_eq]
      rfl
    rw [exec_mirrorNoteRead hs, hostRead, hword]
    rfl
  · rw [exec_registerWrite hs]
    rfl

/-! ### The other requests -/

/-- The next record of a run, whatever MDO holds behind it (R150). -/
theorem nextRunRecord_eq (s : State) : ∃ mdo : Option Bool, nextRunRecord s = { s with mirror := { s.mirror with
    bitCount := s.mirror.nextRecordAt, mclk := idleLevel s.mirror.inForce.clockMode, inPeriod := false, mdo := mdo
    latch := .slot s.mirror.nextSlot s.samples.slots[s.mirror.nextSlot]
    records := s.mirror.records + 1 } } := by
  cases hm : trailingCapture s.mirror.inForce.clockMode with
  | true => exact ⟨_, if_pos hm⟩
  | false => exact ⟨_, if_neg (Bool.eq_false_iff.1 hm)⟩

theorem inRun_iff (m : Mirror) :
    m.inRun = true ↔ m.transaction = .response ∧ m.command = codeReadRun ∧ m.status = .ok := by
  simp only [Mirror.inRun, Bool.and_eq_true, decide_eq_true_iff, and_assoc]

theorem exec_readRunNextRecord {s : State} (hs : Running s) (h : s.mirror.inRun = true) :
    exec .readRunNextRecord s = .next (nextRunRecord s) := (running_eq_next hs _).trans (congrArg _ (if_pos h))

theorem isCommandByte_eq_false {b : Byte}
    (h : b ∉ [codeReadSlot, codeReadRun, codeReadState, codePeekAlert, codeAckAlert, codePostNote]) :
    isCommandByte b = false := by
  simp only [List.mem_cons, List.not_mem_nil, or_false, not_or] at h
  obtain ⟨h1, h2, h3, h4, h5, h6⟩ := h
  simp only [isCommandByte, takesArgument, h1, h2, h3, h4, h5, h6, decide_false, Bool.or_self]

theorem exec_mirrorUnknownCommand {s : State} (hs : Running s) {b : Byte} (h : isCommandByte b = false) :
    exec (.mirrorUnknownCommand b) s = .next (receiveRequest b 0 s) :=
  (running_eq_next hs _).trans (congrArg _ (if_pos (by simp [h])))

/-- Settles O46: each request by its byte. -/
theorem mirrorRequests : Obligations.MirrorRequests := by
  intro s hs
  refine ⟨fun c code b hc ht ha => ?_, fun ht hc hst i hi => ?_, fun ht ha t hresp => ?_, fun ht ha t r hresp hr => ?_,
    fun b hb ht ha t hresp => ?_⟩
  · have hcode : (code = codeReadSlot ∨ code = codeReadRun) ∧ takesArgument code = true := by
      rcases hc with ⟨-, rfl⟩ | ⟨-, rfl⟩ <;> decide
    have hexec : exec c s = .next (mirrorReadSlot code b (asked code b s)) := by
      have hrow : exec c s = .next (receiveRequest code b s) := by
        rcases hc with ⟨rfl, rfl⟩ | ⟨rfl, rfl⟩ <;> exact running_eq_next hs _
      have hargument : (asked code b s).mirror.argument = b := if_pos hcode.2
      rw [hrow, receiveRequest_of_agrees ht ha, ← asked, performRequest_readSlot (command := code) rfl hcode.1, hargument]
    rw [hexec, mirrorReadSlot]
    refine ⟨fun i hi t hresp => ?_, fun hb t hresp => ?_⟩
    · rw [slotOfByte_of_eq hi, hresp]
      rfl
    · rw [slotOfByte_of_le hb, hresp]
      simp only [mirrorRefuse, recordError_eq]
      rfl
  · obtain ⟨mdo, hnext⟩ := nextRunRecord_eq s
    obtain rfl : i = s.mirror.nextSlot := Fin.ext hi
    rw [exec_readRunNextRecord hs ((inRun_iff _).2 ⟨ht, hc, hst⟩), hnext]
    exact ⟨_, rfl, rfl, rfl, rfl, rfl, ht, hst⟩
  · subst hresp
    refine (running_eq_next hs _).trans (congrArg _ ((receiveRequest_of_agrees ht ha).trans ?_))
    exact performRequest_readState (s := asked codeReadState 0 s) rfl
  · subst hresp
    refine (running_eq_next hs _).trans (congrArg _ ((receiveRequest_of_agrees ht ha).trans ?_))
    refine (performRequest_peekAlert (s := asked codePeekAlert 0 s) rfl).trans ?_
    have hlook : (asked codePeekAlert 0 s).alerts.look = r := look_of_cases hr
    rw [mirrorPeekAlert, hlook]
    rfl
  · subst hresp
    rw [exec_mirrorUnknownCommand hs (isCommandByte_eq_false hb), receiveRequest_of_agrees ht ha, ← asked,
      performRequest_unknown (command := b) rfl hb, mirrorRefuse, recordError_eq]
    rfl

end Sys2Proof.Machine
end

section
/-! Proofs about the edges of MCLK (8.1, 8.2) and the bytes of a response (8.2, 8.3, 11.3). -/

namespace Sys2Proof.Machine

/-! ### One edge -/

theorem exec_mclkEdge {s : State} (hs : Running s) (level mdi : Bool) :
    exec (.mclkEdge level mdi) s = .next (mclkSample level mdi s) := running_eq_next hs _

theorem underWay_iff (m : Mirror) : m.underWay = true ↔ m.transaction = .request ∨ m.transaction = .response := by
  cases h : m.transaction <;> simp [Mirror.underWay, h]

section
variable {s : State} {level mdi : Bool}

theorem mclkSample_of_no_edge (h : s.mirror.underWay = false ∨ level = s.mirror.mclk) :
    mclkSample level mdi s = s := by
  refine if_neg ?_
  rcases h with h | h <;> simp [h]

variable (hu : s.mirror.underWay = true) (hl : level ≠ s.mirror.mclk)
include hu hl

theorem mclkSample_of_edge : mclkSample level mdi s =
    let t := setMirror { s.mirror with mclk := level } s
    if level ≠ idleLevel s.mirror.inForce.clockMode then leadingEdge mdi t
    else if s.mirror.inPeriod then trailingEdge mdi t
    else t :=
  if_pos (by simp [hu, hl])

/-- A return to the idle level before the first bit period is lost (R145). -/
theorem mclkSample_lost (hi : level = idleLevel s.mirror.inForce.clockMode) (hp : s.mirror.inPeriod = false) :
    mclkSample level mdi s = { s with mirror := { s.mirror with mclk := level } } :=
  (mclkSample_of_edge hu hl).trans ((if_neg (not_not.2 hi)).trans (if_neg (Bool.eq_false_iff.1 hp)))

/-- The leading edge captures in modes 0 and 2 (R145). -/
theorem mclkSample_leading_captures (hi : level ≠ idleLevel s.mirror.inForce.clockMode)
    (hm : trailingCapture s.mirror.inForce.clockMode = false) : mclkSample level mdi s =
      captureBit mdi { s with mirror := { s.mirror with mclk := level, inPeriod := true } } :=
  (mclkSample_of_edge hu hl).trans ((if_pos hi).trans (if_neg (Bool.eq_false_iff.1 hm)))

/-- The leading edge presents in modes 1 and 3 (R145). -/
theorem mclkSample_leading_presents (hi : level ≠ idleLevel s.mirror.inForce.clockMode)
    (hm : trailingCapture s.mirror.inForce.clockMode = true) : mclkSample level mdi s = { s with
      mirror := { s.mirror with
        mclk := level, inPeriod := true, mdo := some (s.mirror.outBit (s.mirror.bitCount + 1)) } } :=
  (mclkSample_of_edge hu hl).trans ((if_pos hi).trans (if_pos hm))

/-- The trailing edge presents in modes 0 and 2 (R145). -/
theorem mclkSample_trailing_presents (hi : level = idleLevel s.mirror.inForce.clockMode) (hp : s.mirror.inPeriod = true)
    (hm : trailingCapture s.mirror.inForce.clockMode = false) {u : State}
    (hend : endPeriod { s with mirror := { s.mirror with mclk := level, inPeriod := false } } = u) :
    mclkSample level mdi s = setMirror u.mirror.present u := by
  subst hend
  exact (mclkSample_of_edge hu hl).trans
    ((if_neg (not_not.2 hi)).trans ((if_pos hp).trans (if_neg (Bool.eq_false_iff.1 hm))))

/-- The trailing edge captures in modes 1 and 3 (R145). -/
theorem mclkSample_trailing_captures (hi : level = idleLevel s.mirror.inForce.clockMode) (hp : s.mirror.inPeriod = true)
    (hm : trailingCapture s.mirror.inForce.clockMode = true) : mclkSample level mdi s =
      endPeriod (captureBit mdi { s with mirror := { s.mirror with mclk := level, inPeriod := false } }) :=
  (mclkSample_of_edge hu hl).trans ((if_neg (not_not.2 hi)).trans ((if_pos hp).trans (if_pos hm)))

end

/-! ### Captures and the end of a period -/

section
variable {s : State}

theorem captureBit_of_response (h : s.mirror.transaction = .response) (bit : Bool) :
    captureBit bit s = { s with mirror := { s.mirror with bitCount := s.mirror.bitCount + 1 } } := by
  have hcapture : s.mirror.capture bit = { s.mirror with bitCount := s.mirror.bitCount + 1 } := by
    simp only [Mirror.capture, h]
  have hdone : ({ s.mirror with bitCount := s.mirror.bitCount + 1 } : Mirror).requestDone = false := by
    simp [Mirror.requestDone, h]
  simp only [captureBit, hcapture, setMirror]
  exact if_neg (Bool.eq_false_iff.1 hdone)

theorem captureBit_of_not_done {bit : Bool} (h : (s.mirror.capture bit).requestDone = false) :
    captureBit bit s = { s with mirror := s.mirror.capture bit } := if_neg (Bool.eq_false_iff.1 h)

theorem captureBit_of_done {bit : Bool} (h : (s.mirror.capture bit).requestDone = true) :
    captureBit bit s = requestComplete { s with mirror := s.mirror.capture bit } := if_pos h

theorem capture_of_command {m : Mirror} (h : m.transaction = .request) (hc : m.bitCount < 8) (bit : Bool) :
    m.capture bit = { m with bitCount := m.bitCount + 1, command := shiftIn m.command bit } := by
  simp only [Mirror.capture, h, if_pos hc]

theorem capture_of_argument {m : Mirror} (h : m.transaction = .request) (hc : 8 ≤ m.bitCount) (bit : Bool) :
    m.capture bit = { m with bitCount := m.bitCount + 1, argument := shiftIn m.argument bit } := by
  simp only [Mirror.capture, h, if_neg (Nat.not_lt.2 hc)]

theorem requestDone_of_few {m : Mirror} (h : m.bitCount < 8) : m.requestDone = false := by
  simp [Mirror.requestDone, Nat.not_le.2 h]

theorem endPeriod_of_inside (h : s.mirror.inRun = false ∨ s.mirror.bitCount ≠ s.mirror.nextRecordAt) :
    endPeriod s = s := by
  refine if_neg ?_
  rcases h with h | h <;> simp [h]

theorem endPeriod_of_end (h : s.mirror.inRun = true) (hc : s.mirror.bitCount = s.mirror.nextRecordAt) :
    endPeriod s = takeNextRecord s := if_pos (by simp [h, hc])

end

/-- The bit that MDO carries behind `k` bits of a response (R145, R147). -/
theorem outBit_succ {m : Mirror} (h : m.transaction = .response) (k : Nat) :
    m.outBit (k + 1) = (m.outByte (k / 8)).getLsbD (7 - k % 8) := by
  simp only [Mirror.outBit, h, Nat.add_sub_cancel]

theorem shiftIn_eq (b : Byte) (bit : Bool) : shiftIn b bit = BitVec.ofNat 8 (2 * b.toNat + bit.toNat) := by
  apply BitVec.eq_of_toNat_eq
  have hshift : (b <<< 1).toNat = 2 * (b.toNat % 128) := by
    rw [BitVec.toNat_shiftLeft, Nat.shiftLeft_eq]
    omega
  have hbit : (BitVec.setWidth 8 (BitVec.ofBool bit)).toNat = bit.toNat := by cases bit <;> rfl
  have hor := Nat.two_pow_add_eq_or_of_lt (i := 1) (b := bit.toNat) (by cases bit <;> decide) (b.toNat % 128)
  rw [shiftIn, BitVec.toNat_or, hshift, hbit, BitVec.toNat_ofNat, ← Nat.pow_one 2, ← hor, Nat.pow_one]
  have := Bool.toNat_lt bit
  omega

/-- Settles O48: edge by edge, and the record's end left out. -/
theorem mclkEdge : Obligations.MclkEdge := by
  rintro level mdi s m hs rfl
  rw [exec_mclkEdge hs]
  refine ⟨fun h => ?_, fun hu hl hi hp => ?_, fun ht hl bit endsRecord hbit hends => ?_, fun ht hcount hl hi hm => ?_⟩
  · refine congrArg _ (mclkSample_of_no_edge ?_)
    rcases h with h | h | h
    · exact .inl (by simp only [Mirror.underWay, h])
    · exact .inl (by simp only [Mirror.underWay, h])
    · exact .inr h
  · exact congrArg _ (mclkSample_lost ((underWay_iff _).2 hu) hl hi hp)
  · have hu := (underWay_iff _).2 (.inr ht)
    have hinside {k : Nat} (hk : ¬ endsRecord k) : s.mirror.inRun = false ∨ k ≠ s.mirror.nextRecordAt := by
      by_contra hboth
      obtain ⟨hrun, hat⟩ := not_or.1 hboth
      obtain ⟨-, hcommand, hstatus⟩ := (inRun_iff _).1 (Bool.not_eq_false _ ▸ hrun)
      exact hk ((hends k).2 ⟨hcommand, hstatus, not_not.1 hat⟩)
    refine ⟨fun hi hm => ?_, fun hi hm => ?_, fun hi hp hm hk => ?_, fun hi hp hm hk => ?_⟩
    · rw [mclkSample_leading_captures hu hl hi hm]
      exact congrArg _ (captureBit_of_response
        (s := { s with mirror := { s.mirror with mclk := level, inPeriod := true } }) ht mdi)
    · rw [mclkSample_leading_presents hu hl hi hm, outBit_succ ht, hbit]
    · rw [mclkSample_trailing_presents hu hl hi hp hm (endPeriod_of_inside (hinside hk)), hbit, ← outBit_succ ht]
      rfl
    · rw [mclkSample_trailing_captures hu hl hi hp hm]
      refine congrArg _ ((congrArg endPeriod (captureBit_of_response
        (s := { s with mirror := { s.mirror with mclk := level, inPeriod := false } }) ht mdi)).trans ?_)
      exact endPeriod_of_inside (hinside hk)
  · have hu := (underWay_iff _).2 (.inl ht)
    rw [mclkSample_leading_captures hu hl hi hm, ← shiftIn_eq]
    have hcapture := capture_of_command (m := { s.mirror with mclk := level, inPeriod := true }) ht
      (show s.mirror.bitCount < 8 by omega) mdi
    refine congrArg _ ((captureBit_of_not_done
      (s := { s with mirror := { s.mirror with mclk := level, inPeriod := true } }) ?_).trans ?_)
    · rw [hcapture]
      exact requestDone_of_few (Nat.succ_lt_succ hcount)
    · rw [hcapture]

/-! ### The bytes of a response -/

/-- The request is one byte, or two (R146). -/
theorem requestBytes_eq (command : Byte) : requestBits command / 8 =
    if command ∈ [0x21#8, 0x22#8, 0x41#8, 0x50#8] then 2 else 1 := by
  have htakes : takesArgument command = true ↔ command ∈ [0x21#8, 0x22#8, 0x41#8, 0x50#8] := by
    simp only [takesArgument, Bool.or_eq_true, decide_eq_true_iff, List.mem_cons, List.not_mem_nil, or_false, or_assoc]
    exact Iff.rfl
  by_cases h : takesArgument command = true
  · rw [requestBits, if_pos h, if_pos (htakes.1 h)]
  · rw [requestBits, if_neg h, if_neg (mt htakes.2 h)]

section
variable (m : Mirror) {first : Nat} (hf : requestBits m.command / 8 = first)
include hf

theorem outByte_request {p : Nat} (h : p < first) : m.outByte p = 0 := by
  subst hf
  exact if_pos h

theorem outByte_turnaround : m.outByte first = 0xC3 := by
  subst hf
  simp [Mirror.outByte, Config.turnaround]

theorem outByte_status : m.outByte (first + 1) = m.status.code := by
  subst hf
  simp [Mirror.outByte]

theorem outByte_data (k : Nat) : m.outByte (first + 2 + k) = m.dataByte k := by
  subst hf
  have h1 : ¬ requestBits m.command / 8 + 2 + k < requestBits m.command / 8 := by omega
  have h2 : ¬ requestBits m.command / 8 + 2 + k = requestBits m.command / 8 := by omega
  have h3 : ¬ requestBits m.command / 8 + 2 + k = requestBits m.command / 8 + 1 := by omega
  have h4 : requestBits m.command / 8 + 2 + k - (requestBits m.command / 8 + 2) = k := by omega
  simp only [Mirror.outByte, if_neg h1, if_neg h2, if_neg h3, h4]

end

/-- The data bytes of each command that answers OK (R147, R149 to R153). -/
theorem dataByte_of_ok {m : Mirror} (h : m.status = .ok) (k : Nat) : m.dataByte k =
    if m.command = codeReadSlot then (if k < 8 then m.latch.byte k else 0)
    else if m.command = codeReadRun then m.latch.byte (k % 8)
    else if m.command = codeReadState then (if k < 6 then m.latch.byte k else 0)
    else if m.command = codePeekAlert then (if k < 9 then m.latch.byte k else 0)
    else 0 := by
  simp only [Mirror.dataByte, h]

theorem dataByte_of_ne_ok {m : Mirror} (h : m.status ≠ .ok) (k : Nat) : m.dataByte k = 0 := by
  cases hs : m.status with
  | ok => exact absurd hs h
  | _ => simp only [Mirror.dataByte, hs]

theorem wordByte_append (w : Word) : wordByte w 0 ++ wordByte w 1 = w := by
  apply BitVec.eq_of_toNat_eq
  simp only [append_toNat, wordByte, BitVec.extractLsb'_toNat, Nat.shiftRight_eq_div_pow]
  omega

theorem valueByte_append (v : Value) : valueByte v 0 ++ valueByte v 1 ++ valueByte v 2 ++ valueByte v 3 = v := by
  apply BitVec.eq_of_toNat_eq
  simp only [append_toNat, valueByte, BitVec.extractLsb'_toNat, Nat.shiftRight_eq_div_pow]
  omega

theorem index_toNat (i : Fin 64) : (0#2 ++ BitVec.ofFin (w := 6) i).toNat = i.val := by
  simp only [append_toNat, zeros_toNat, ofFin_toNat]
  omega

theorem slotRecord_last (r : Slot) (i : Fin 64) : (slotRecordByte i r 7).toNat = r.status.code.toNat +
    4 * (faultKindCode r.faultKind).toNat + 16 * r.limit.code.toNat + 64 * r.overwrite.toNat := by
  simp only [slotRecordByte, append_toNat, flag_toNat, zeros_toNat]
  omega

theorem stateRecord_first (r : StateRecord) : (r.byte 0).toNat = r.state.code.toNat + 4 * r.walker.code.toNat +
    32 * r.stopPending.toNat + 64 * r.deferred.toNat + 128 * r.commitPending.toNat := by
  simp only [StateRecord.byte, append_toNat, flag_toNat]
  omega

/-- Settles O49: zeros, turnaround, status and data in their places, and the records byte by byte. -/
theorem responseBytes : Obligations.ResponseBytes := by
  refine ⟨fun m first hfirst => ?_, ?_, ?_, ?_⟩
  · have hf : requestBits m.command / 8 = first := (requestBytes_eq m.command).trans hfirst.symm
    have hdata {p : Nat} (hp : first + 2 ≤ p) : m.outByte p = m.dataByte (p - (first + 2)) := by
      obtain ⟨k, rfl⟩ := Nat.exists_eq_add_of_le hp
      rw [outByte_data m hf, Nat.add_sub_cancel_left]
    refine ⟨fun p hp => outByte_request m hf hp, outByte_turnaround m hf, ?_, fun hst p hp => ?_, fun hst => ?_⟩
    · rw [outByte_status m hf]
      cases m.status <;> rfl
    · rw [hdata hp, dataByte_of_ne_ok hst]
    · refine ⟨fun hc => ?_, fun hc k => ?_, fun hc => ?_, fun hc => ?_, fun hc p hp => ?_⟩
      · obtain rfl : first = 2 := by rw [hfirst, hc]; decide
        refine ⟨fun k hk => ?_, fun p hp => ?_⟩
        · rw [hdata (by omega), dataByte_of_ok hst, if_pos hc, if_pos (by omega), Nat.add_sub_cancel_left]
        · rw [hdata (by omega), dataByte_of_ok hst, if_pos hc, if_neg (by omega)]
      · obtain rfl : first = 2 := by rw [hfirst, hc]; decide
        rw [hdata (by omega), dataByte_of_ok hst, hc, Nat.add_sub_cancel_left]
        rfl
      · obtain rfl : first = 1 := by rw [hfirst, hc]; decide
        refine ⟨fun k hk => ?_, fun p hp => ?_⟩
        · rw [hdata (by omega), dataByte_of_ok hst, hc, if_pos (c := 3 + k - (1 + 2) < 6) (by omega),
            Nat.add_sub_cancel_left]
          rfl
        · rw [hdata (by omega), dataByte_of_ok hst, hc, if_neg (c := p - (1 + 2) < 6) (by omega)]
          rfl
      · obtain rfl : first = 1 := by rw [hfirst, hc]; decide
        refine ⟨fun k hk => ?_, fun p hp => ?_⟩
        · rw [hdata (by omega), dataByte_of_ok hst, hc, if_pos (c := 3 + k - (1 + 2) < 9) (by omega),
            Nat.add_sub_cancel_left]
          rfl
        · rw [hdata (by omega), dataByte_of_ok hst, hc, if_neg (c := p - (1 + 2) < 9) (by omega)]
          rfl
      · obtain rfl : first = 2 := by rw [hfirst, hc]; decide
        rw [hdata (by omega), dataByte_of_ok hst, hc]
        rfl
  · rintro i r b rfl
    exact ⟨index_toNat i, valueByte_append _, wordByte_append _, slotRecord_last r i⟩
  · rintro r b rfl hcount
    refine ⟨stateRecord_first r, ?_, wordByte_append _, rfl, ?_⟩
    · show (0#7 ++ r.active.code).toNat = _
      rw [append_toNat, zeros_toNat, Nat.zero_mul, Nat.zero_add]
    · show (BitVec.ofNat 8 r.alertCount).toNat = _
      rw [BitVec.toNat_ofNat]
      omega
  · rintro r b rfl
    refine ⟨rfl, ?_, index_toNat r.slot, wordByte_append _, valueByte_append _⟩
    show (0#5 ++ r.kind.code).toNat = _
    rw [append_toNat, zeros_toNat, Nat.zero_mul, Nat.zero_add]

end Sys2Proof.Machine
end

section
/-! Proofs that a mirror row is its MCLK samples (8.2; log entries 8 and 9). -/

namespace Sys2Proof.Machine

/-! ### Rows one after another -/

theorem execAll_append {l l' : List Instr} {s t : State} (h : execAll l s = .next t) :
    execAll (l ++ l') s = execAll l' t := by
  induction l generalizing s with
  | nil =>
    cases h
    rfl
  | cons c l ih =>
    cases hc : exec c s with
    | next u =>
      simp only [List.cons_append, execAll, hc] at h ⊢
      exact ih h
    | fault f => simp only [execAll, hc] at h; exact nomatch h
    | refused r => simp only [execAll, hc] at h; exact nomatch h

theorem execAll_cons {c : Instr} {l : List Instr} {s t : State} (h : exec c s = .next t) :
    execAll (c :: l) s = execAll l t := by
  simp only [execAll, h]

/-- The samples of the last bit period of a request, up to its capture edge (R145). -/
def lastSamples (mode : BitVec 2) (bit : Bool) : List Instr :=
  if trailingCapture mode then periodSamples mode bit else [.mclkEdge (!idleLevel mode) bit]

theorem clockIn_concat (mode : BitVec 2) (bits : List Bool) (bit : Bool) :
    clockIn mode (bits ++ [bit]) = bits.flatMap (periodSamples mode) ++ lastSamples mode bit := by
  have hall : (bits ++ [bit]).flatMap (periodSamples mode) =
      bits.flatMap (periodSamples mode) ++ periodSamples mode bit := by simp
  cases hm : trailingCapture mode with
  | true => simp only [clockIn, hall, lastSamples, hm, if_true]
  | false =>
    simp only [clockIn, hall, lastSamples, hm, Bool.false_eq_true, if_false]
    exact List.dropLast_append_of_ne_nil (by simp [periodSamples])

/-! ### The pins of the port -/

/-- The port with other levels on its pins: MCLK as last sampled, whether a period is open, and MDO. -/
def Mirror.atPins (m : Mirror) (mclk inPeriod : Bool) (mdo : Option Bool) : Mirror :=
  { m with mclk := mclk, inPeriod := inPeriod, mdo := mdo }

section
variable (m : Mirror) (mclk inPeriod : Bool) (mdo : Option Bool)

theorem atPins_atPins (mclk' inPeriod' : Bool) (mdo' : Option Bool) :
    (m.atPins mclk inPeriod mdo).atPins mclk' inPeriod' mdo' = m.atPins mclk' inPeriod' mdo' := rfl

theorem capture_atPins (bit : Bool) :
    (m.atPins mclk inPeriod mdo).capture bit = (m.capture bit).atPins mclk inPeriod mdo := by
  cases h : m.transaction with
  | request =>
    by_cases hc : m.bitCount < 8
    · rw [capture_of_command h hc, capture_of_command (m := m.atPins mclk inPeriod mdo) h hc]
      rfl
    · have h8 := Nat.not_lt.1 hc
      rw [capture_of_argument h h8, capture_of_argument (m := m.atPins mclk inPeriod mdo) h h8]
      rfl
  | _ => simp only [Mirror.capture, Mirror.atPins, h]

theorem capture_inForce (bit : Bool) : (m.capture bit).inForce = m.inForce := by
  unfold Mirror.capture
  repeat' split
  all_goals rfl

theorem captures_atPins (bits : List Bool) :
    bits.foldl Mirror.capture (m.atPins mclk inPeriod mdo) =
      (bits.foldl Mirror.capture m).atPins mclk inPeriod mdo := by
  induction bits generalizing m with
  | nil => rfl
  | cons bit bits ih => rw [List.foldl_cons, List.foldl_cons, capture_atPins, ih]

end

/-! ### What bits make of a request -/

section
variable {m : Mirror} (h : m.transaction = .request)
include h

theorem capture_transaction (bit : Bool) : (m.capture bit).transaction = .request := by
  by_cases hc : m.bitCount < 8
  · rw [capture_of_command h hc]
    exact h
  · rw [capture_of_argument h (Nat.not_lt.1 hc)]
    exact h

/-- Up to eight bits join the command byte (R145, R146). -/
theorem captures_of_command (bits : List Bool) (hc : m.bitCount + bits.length ≤ 8) :
    bits.foldl Mirror.capture m =
      { m with bitCount := m.bitCount + bits.length, command := bits.foldl shiftIn m.command } := by
  induction bits generalizing m with
  | nil => rfl
  | cons bit bits ih =>
    rw [List.length_cons] at hc
    rw [List.foldl_cons, ih (capture_transaction h bit) (by rw [capture_of_command h (by omega)]; simp only; omega),
      capture_of_command h (by omega), List.foldl_cons, List.length_cons, Nat.add_assoc, Nat.add_comm 1]

/-- The bits behind them join the argument byte (R146). -/
theorem captures_of_argument (bits : List Bool) (hc : 8 ≤ m.bitCount) :
    bits.foldl Mirror.capture m =
      { m with bitCount := m.bitCount + bits.length, argument := bits.foldl shiftIn m.argument } := by
  induction bits generalizing m with
  | nil => rfl
  | cons bit bits ih =>
    rw [List.foldl_cons, ih (capture_transaction h bit) (by rw [capture_of_argument h hc]; simp only; omega),
      capture_of_argument h hc, List.foldl_cons, List.length_cons, Nat.add_assoc, Nat.add_comm 1]

end

theorem shiftIn_getLsbD (b : Byte) (bit : Bool) {i : Nat} (hi : i < 8) :
    (shiftIn b bit).getLsbD i = if i = 0 then bit else b.getLsbD (i - 1) := by
  by_cases h : i = 0
  · subst h
    simp [shiftIn]
  · have hpos : ¬ i < 1 := by omega
    simp [shiftIn, h, hi, hpos, BitVec.getLsbD_ofBool, -BitVec.getLsbD_eq_getElem]

/-- The eight bits of a byte make that byte, whatever stood there (R145). -/
theorem shiftIn_bitsOf (b before : Byte) : (bitsOf b).foldl shiftIn before = b := by
  have hbits : bitsOf b = [b.getLsbD 7, b.getLsbD 6, b.getLsbD 5, b.getLsbD 4, b.getLsbD 3, b.getLsbD 2,
    b.getLsbD 1, b.getLsbD 0] := rfl
  rw [hbits]
  refine BitVec.eq_of_getLsbD_eq fun i hi => ?_
  interval_cases i <;> simp [shiftIn_getLsbD, -BitVec.getLsbD_eq_getElem]

/-! ### One edge of a bit period -/

/-- Between two bit periods, or before the first: MCLK at its idle level and no period open (R145). -/
structure Mirror.Between (m : Mirror) (mode : BitVec 2) : Prop where
  inForce  : m.inForce.clockMode = mode
  mclk     : m.mclk = idleLevel mode
  inPeriod : m.inPeriod = false

/-- Inside a bit period, behind its leading edge. -/
structure Mirror.Inside (m : Mirror) (mode : BitVec 2) : Prop where
  inForce  : m.inForce.clockMode = mode
  mclk     : m.mclk = !idleLevel mode
  inPeriod : m.inPeriod = true

section
variable {s : State} {mode : BitVec 2} (hs : Running s) (hu : s.mirror.underWay = true) (bit : Bool)
include hs hu

theorem sample_leading_captures (hb : s.mirror.Between mode) (hm : trailingCapture mode = false) :
    exec (.mclkEdge (!idleLevel mode) bit) s = .next (captureBit bit { s with
      mirror := s.mirror.atPins (!idleLevel mode) true s.mirror.mdo }) := by
  obtain ⟨rfl, hmclk, -⟩ := hb
  rw [exec_mclkEdge hs]
  exact congrArg _ (mclkSample_leading_captures hu (by rw [hmclk]; exact Bool.not_ne_self _) (Bool.not_ne_self _) hm)

theorem sample_leading_presents (hb : s.mirror.Between mode) (hm : trailingCapture mode = true) :
    exec (.mclkEdge (!idleLevel mode) bit) s = .next { s with
      mirror := s.mirror.atPins (!idleLevel mode) true (some (s.mirror.outBit (s.mirror.bitCount + 1))) } := by
  obtain ⟨rfl, hmclk, -⟩ := hb
  rw [exec_mclkEdge hs]
  exact congrArg _ (mclkSample_leading_presents hu (by rw [hmclk]; exact Bool.not_ne_self _) (Bool.not_ne_self _) hm)

theorem sample_trailing_presents (hb : s.mirror.Inside mode) (hm : trailingCapture mode = false) {u : State}
    (hend : endPeriod { s with mirror := s.mirror.atPins (idleLevel mode) false s.mirror.mdo } = u) :
    exec (.mclkEdge (idleLevel mode) bit) s = .next { u with
      mirror := { u.mirror with mdo := some (u.mirror.outBit (u.mirror.bitCount + 1)) } } := by
  obtain ⟨rfl, hmclk, hp⟩ := hb
  rw [exec_mclkEdge hs]
  exact congrArg _ (mclkSample_trailing_presents hu (by rw [hmclk]; exact (Bool.not_ne_self _).symm) rfl hp hm hend)

theorem sample_trailing_captures (hb : s.mirror.Inside mode) (hm : trailingCapture mode = true) :
    exec (.mclkEdge (idleLevel mode) bit) s = .next (endPeriod (captureBit bit { s with
      mirror := s.mirror.atPins (idleLevel mode) false s.mirror.mdo })) := by
  obtain ⟨rfl, hmclk, hp⟩ := hb
  rw [exec_mclkEdge hs]
  exact congrArg _ (mclkSample_trailing_captures hu (by rw [hmclk]; exact (Bool.not_ne_self _).symm) rfl hp hm)

end

/-! ### One bit period of a request -/

theorem inRun_of_request {m : Mirror} (h : m.transaction = .request) : m.inRun = false := by
  simp [Mirror.inRun, h]

theorem outBit_of_request {m : Mirror} (h : m.transaction = .request) (k : Nat) : m.outBit k = false := by
  simp only [Mirror.outBit, h]

section
variable {s : State} {bit : Bool} (mclk inPeriod : Bool) (mdo : Option Bool)

theorem captureBit_atPins (hdone : (s.mirror.capture bit).requestDone = false) :
    captureBit bit { s with mirror := s.mirror.atPins mclk inPeriod mdo } =
      { s with mirror := (s.mirror.capture bit).atPins mclk inPeriod mdo } := by
  have hpins := capture_atPins s.mirror mclk inPeriod mdo bit
  rw [captureBit_of_not_done (by rw [hpins]; exact hdone), hpins]

theorem captureBit_atPins_done (hdone : (s.mirror.capture bit).requestDone = true) :
    captureBit bit { s with mirror := s.mirror.atPins mclk inPeriod mdo } =
      requestComplete { s with mirror := (s.mirror.capture bit).atPins mclk inPeriod mdo } := by
  have hpins := capture_atPins s.mirror mclk inPeriod mdo bit
  rw [captureBit_of_done (by rw [hpins]; exact hdone), hpins]

end

/-- A request is complete at eight bits or at sixteen (R146). -/
theorem requestDone_iff {m : Mirror} (h : m.transaction = .request) :
    m.requestDone = true ↔ m.bitCount = requestBits m.command := by
  have hbits : 8 ≤ requestBits m.command := by
    unfold requestBits
    split <;> omega
  simp only [Mirror.requestDone, h, decide_true, Bool.true_and, Bool.and_eq_true, decide_eq_true_iff]
  omega

theorem requestBits_le (command : Byte) : requestBits command ≤ 16 := by
  unfold requestBits
  split <;> omega

theorem bitCount_of_done {m : Mirror} (h : m.requestDone = true) : m.bitCount ≤ 16 := by
  simp only [Mirror.requestDone, Bool.and_eq_true, decide_eq_true_iff] at h
  rw [h.2]
  exact requestBits_le m.command

/-- The action of a request is not the end of a record (R150). -/
theorem endPeriod_requestComplete {s : State} (h : s.mirror.bitCount ≤ 16) :
    endPeriod (requestComplete s) = requestComplete s := by
  have hcount : (requestComplete s).mirror.bitCount = s.mirror.bitCount :=
    congrArg Progress.bitCount (performRequest_progress (setMirror { s.mirror with transaction := .response } s))
  refine endPeriod_of_inside (.inr ?_)
  rw [hcount, Mirror.nextRecordAt]
  omega

section
variable {s : State} {mode : BitVec 2} {bit : Bool} (hs : Running s) (ht : s.mirror.transaction = .request)
  (hb : s.mirror.Between mode)
include hs ht hb

/-- A bit period of a request that does not complete it: its bit joins the request, MDO low (R145, R147). -/
theorem execAll_period (hdone : (s.mirror.capture bit).requestDone = false) :
    execAll (periodSamples mode bit) s =
      .next { s with mirror := (s.mirror.capture bit).atPins (idleLevel mode) false (some false) } := by
  have hu := (underWay_iff s.mirror).2 (.inl ht)
  have htaken := capture_transaction ht bit
  have hmode : (s.mirror.capture bit).inForce.clockMode = mode := by rw [capture_inForce, hb.inForce]
  cases hm : trailingCapture mode with
  | true =>
    rw [periodSamples, execAll_cons (sample_leading_presents hs hu bit hb hm), outBit_of_request ht]
    refine (execAll_cons (sample_trailing_captures (s := { s with
      mirror := s.mirror.atPins (!idleLevel mode) true (some false) }) hs hu bit ⟨hb.inForce, rfl, rfl⟩ hm)).trans
      (congrArg Host.Outcome.next ?_)
    refine (congrArg endPeriod (captureBit_atPins _ false _ hdone)).trans (endPeriod_of_inside (.inl ?_))
    exact inRun_of_request htaken
  | false =>
    rw [periodSamples, execAll_cons (sample_leading_captures hs hu bit hb hm), captureBit_atPins _ true _ hdone]
    refine (execAll_cons (sample_trailing_presents (s := { s with
      mirror := (s.mirror.capture bit).atPins (!idleLevel mode) true s.mirror.mdo }) hs
      ((underWay_iff _).2 (.inl htaken)) bit ⟨hmode, rfl, rfl⟩ hm
      (endPeriod_of_inside (.inl (inRun_of_request htaken))))).trans (congrArg Host.Outcome.next ?_)
    have hlow := outBit_of_request (m := (s.mirror.capture bit).atPins (idleLevel mode) false s.mirror.mdo) htaken
    exact congrArg (fun out : Bool => { s with
      mirror := (s.mirror.capture bit).atPins (idleLevel mode) false (some out) }) (hlow _)

/-- The last bit period of a request, up to its capture edge (R146). -/
theorem execAll_lastPeriod (hd : s.mirror.mdo = some false) (hdone : (s.mirror.capture bit).requestDone = true) :
    execAll (lastSamples mode bit) s = .next (requestComplete { s with
      mirror := (s.mirror.capture bit).atPins (if trailingCapture mode then idleLevel mode else !idleLevel mode)
        (!trailingCapture mode) (some false) }) := by
  have hu := (underWay_iff s.mirror).2 (.inl ht)
  cases hm : trailingCapture mode with
  | true =>
    rw [lastSamples, if_pos hm, periodSamples, execAll_cons (sample_leading_presents hs hu bit hb hm),
      outBit_of_request ht]
    refine (execAll_cons (sample_trailing_captures (s := { s with
      mirror := s.mirror.atPins (!idleLevel mode) true (some false) }) hs hu bit ⟨hb.inForce, rfl, rfl⟩ hm)).trans
      (congrArg Host.Outcome.next ?_)
    exact (congrArg endPeriod (captureBit_atPins_done _ false _ hdone)).trans
      (endPeriod_requestComplete (bitCount_of_done hdone))
  | false =>
    rw [lastSamples, if_neg (Bool.eq_false_iff.1 hm), execAll_cons (sample_leading_captures hs hu bit hb hm),
      captureBit_atPins_done _ true _ hdone, hd]
    rfl

end

/-! ### The bits of a request, one after another -/

/-- `n` more bits do not complete the request (R146). -/
def Mirror.Undone (m : Mirror) (n : Nat) : Prop :=
  m.bitCount + n < 8 ∨ 8 ≤ m.bitCount ∧ takesArgument m.command = true ∧ m.bitCount + n < 16

theorem Mirror.Undone.capture {m : Mirror} {n : Nat} (h : m.Undone (n + 1)) (ht : m.transaction = .request)
    (bit : Bool) : (m.capture bit).requestDone = false ∧ (m.capture bit).Undone n := by
  rcases h with h | ⟨h8, hc, h16⟩
  · rw [capture_of_command ht (by omega)]
    refine ⟨requestDone_of_few (show m.bitCount + 1 < 8 by omega), .inl (show m.bitCount + 1 + n < 8 by omega)⟩
  · rw [capture_of_argument ht h8]
    have hbits : requestBits m.command = 16 := if_pos hc
    refine ⟨Bool.eq_false_iff.2 fun hd => ?_, .inr ⟨show 8 ≤ m.bitCount + 1 by omega, hc,
      show m.bitCount + 1 + n < 16 by omega⟩⟩
    have hend : m.bitCount + 1 = requestBits m.command := (requestDone_iff
      (m := { m with bitCount := m.bitCount + 1, argument := shiftIn m.argument bit }) ht).1 hd
    omega

section
variable (mode : BitVec 2) (bits : List Bool)

/-- The device with bits of a request taken, between two bit periods, MDO low. -/
def clocked (s : State) : State :=
  { s with mirror := (bits.foldl Mirror.capture s.mirror).atPins (idleLevel mode) false (some false) }

theorem clocked_append (bits' : List Bool) (s : State) :
    clocked mode bits' (clocked mode bits s) = clocked mode (bits ++ bits') s := by
  simp only [clocked, captures_atPins, atPins_atPins, List.foldl_append]

theorem captures_transaction {m : Mirror} (h : m.transaction = .request) :
    (bits.foldl Mirror.capture m).transaction = .request := by
  induction bits generalizing m with
  | nil => exact h
  | cons bit bits ih => exact ih (capture_transaction h bit)

theorem captures_inForce (m : Mirror) : (bits.foldl Mirror.capture m).inForce = m.inForce := by
  induction bits generalizing m with
  | nil => rfl
  | cons bit bits ih => exact (ih _).trans (capture_inForce m bit)

theorem clocked_between {s : State} (h : s.mirror.inForce.clockMode = mode) :
    (clocked mode bits s).mirror.Between mode :=
  ⟨(congrArg _ (captures_inForce bits s.mirror)).trans h, rfl, rfl⟩

end

section
variable {mode : BitVec 2} {bits : List Bool} {bit : Bool}

/-- Bits that do not complete the request, at least one of them. -/
theorem execAll_periods : ∀ {s : State} {bit : Bool}, Running s → s.mirror.transaction = .request →
    s.mirror.Between mode → s.mirror.Undone (bits.length + 1) →
    execAll ((bit :: bits).flatMap (periodSamples mode)) s = .next (clocked mode (bit :: bits) s) := by
  induction bits with
  | nil =>
    intro s bit hs ht hb hundone
    obtain ⟨hdone, -⟩ := hundone.capture ht bit
    rw [List.flatMap_cons, List.flatMap_nil, List.append_nil]
    exact execAll_period hs ht hb hdone
  | cons next bits ih =>
    intro s bit hs ht hb hundone
    obtain ⟨hdone, hleft⟩ := hundone.capture ht bit
    have hstep := ih (bit := next) (s := clocked mode [bit] s) hs (capture_transaction ht bit)
      (clocked_between mode [bit] hb.inForce) hleft
    rw [List.flatMap_cons, execAll_append (execAll_period hs ht hb hdone)]
    exact hstep.trans (congrArg _ (clocked_append mode [bit] (next :: bits) s))

variable {s : State} (hs : Running s) (ht : s.mirror.transaction = .request) (hb : s.mirror.Between mode)
include hs ht hb

/-- The request's last bit, behind the others (R146). -/
theorem execAll_clockIn (hbits : execAll (bits.flatMap (periodSamples mode)) s = .next (clocked mode bits s))
    (hdone : ((bits ++ [bit]).foldl Mirror.capture s.mirror).requestDone = true) :
    execAll (clockIn mode (bits ++ [bit])) s = .next (requestComplete { s with
      mirror := ((bits ++ [bit]).foldl Mirror.capture s.mirror).atPins
        (if trailingCapture mode then idleLevel mode else !idleLevel mode) (!trailingCapture mode) (some false) }) := by
  have hcapture : (clocked mode bits s).mirror.capture bit =
      ((bits ++ [bit]).foldl Mirror.capture s.mirror).atPins (idleLevel mode) false (some false) := by
    rw [List.foldl_append]
    exact capture_atPins _ _ _ _ bit
  have hlast := execAll_lastPeriod (bit := bit) (s := clocked mode bits s) hs (captures_transaction bits ht)
    (clocked_between mode bits hb.inForce) rfl (by rw [hcapture]; exact hdone)
  rw [hcapture] at hlast
  rw [clockIn_concat, execAll_append hbits]
  exact hlast

end

/-! ### A request of one byte or two -/

/-- All bits of a byte but its last. -/
def leadingBits (b : Byte) : List Bool := (bitsOf b).dropLast

theorem bitsOf_eq (b : Byte) : bitsOf b = leadingBits b ++ [b.getLsbD 0] := rfl

section
variable {m : Mirror} (ht : m.transaction = .request) (hcount : m.bitCount = 0)
include ht hcount

/-- The command byte is received (R146). -/
theorem captures_command (command : Byte) : (bitsOf command).foldl Mirror.capture m =
    { m with bitCount := 8, command := command } := by
  rw [captures_of_command ht (bitsOf command) (show m.bitCount + 8 ≤ 8 by omega), shiftIn_bitsOf, hcount]
  rfl

/-- The request is received (R146). -/
theorem captures_request (command argument : Byte) : (requestBitsOf command argument).foldl Mirror.capture m =
    { m with
      bitCount := requestBits command, command := command
      argument := if takesArgument command then argument else m.argument } := by
  rw [requestBitsOf, List.foldl_append, captures_command ht hcount]
  by_cases h : takesArgument command = true
  · rw [if_pos h, captures_of_argument (m := { m with bitCount := 8, command := command }) ht _ (Nat.le_refl 8),
      shiftIn_bitsOf, requestBits, if_pos h, if_pos h]
    rfl
  · rw [if_neg h, requestBits, if_neg h, if_neg h]
    rfl

theorem captures_request_done (command argument : Byte) :
    ((requestBitsOf command argument).foldl Mirror.capture m).requestDone = true := by
  rw [captures_request ht hcount]
  exact (requestDone_iff (m := { m with
    bitCount := requestBits command, command := command
    argument := if takesArgument command then argument else m.argument }) ht).2 rfl

end

section
variable {s : State} {mode : BitVec 2} (hs : Running s) (ht : s.mirror.transaction = .request)
  (hb : s.mirror.Between mode) (hcount : s.mirror.bitCount = 0)
include hs ht hb hcount

theorem execAll_leadingBits (command : Byte) : execAll ((leadingBits command).flatMap (periodSamples mode)) s =
    .next (clocked mode (leadingBits command) s) :=
  execAll_periods hs ht hb (.inl (show s.mirror.bitCount + 7 < 8 by omega))

/-- The command byte, where an argument byte follows it: the request is not complete (R146). -/
theorem execAll_commandByte {command : Byte} (h : takesArgument command = true) :
    execAll ((bitsOf command).flatMap (periodSamples mode)) s = .next (clocked mode (bitsOf command) s) := by
  have hlast : (clocked mode (leadingBits command) s).mirror.capture (command.getLsbD 0) =
      (clocked mode (bitsOf command) s).mirror := by
    rw [bitsOf_eq, clocked, clocked, List.foldl_append]
    exact capture_atPins _ _ _ _ _
  have hdone : ((clocked mode (leadingBits command) s).mirror.capture (command.getLsbD 0)).requestDone = false := by
    rw [hlast]
    refine Bool.eq_false_iff.2 fun hd => ?_
    have hend := (requestDone_iff (captures_transaction (bitsOf command) ht)).1 hd
    rw [captures_command ht hcount] at hend
    simp only at hend
    rw [requestBits, if_pos h] at hend
    omega
  rw [bitsOf_eq, List.flatMap_append, execAll_append (execAll_leadingBits hs ht hb hcount command),
    ← clocked_append, List.flatMap_cons, List.flatMap_nil, List.append_nil]
  exact execAll_period hs (captures_transaction _ ht) (clocked_between mode _ hb.inForce) hdone

/-- A request's bits clocked in are the request received (R145, R146; log entry 8). -/
theorem execAll_request (command argument : Byte) :
    execAll (clockIn mode (requestBitsOf command argument)) s = .next (requestComplete { s with
      mirror := s.mirror.received command argument }) := by
  have hreceived : ((requestBitsOf command argument).foldl Mirror.capture s.mirror).atPins
      (if trailingCapture mode then idleLevel mode else !idleLevel mode) (!trailingCapture mode) (some false) =
      s.mirror.received command argument := by
    obtain ⟨rfl, -, -⟩ := hb
    rw [captures_request ht hcount]
    rfl
  have hdone := captures_request_done ht hcount command argument
  rw [← hreceived]
  by_cases h : takesArgument command = true
  · have hbits : requestBitsOf command argument =
        (bitsOf command ++ leadingBits argument) ++ [argument.getLsbD 0] := by
      rw [requestBitsOf, if_pos h, bitsOf_eq argument, List.append_assoc]
    rw [hbits] at hdone ⊢
    refine execAll_clockIn hs ht hb ?_ hdone
    rw [List.flatMap_append, execAll_append (execAll_commandByte hs ht hb hcount h), ← clocked_append]
    refine execAll_periods hs (captures_transaction _ ht) (clocked_between mode _ hb.inForce) (.inr ?_)
    rw [clocked, captures_command ht hcount]
    exact ⟨Nat.le_refl 8, h, show 8 + 7 < 16 by omega⟩
  · have hbits : requestBitsOf command argument = leadingBits command ++ [command.getLsbD 0] := by
      rw [requestBitsOf, if_neg h, List.append_nil, bitsOf_eq]
    rw [hbits] at hdone ⊢
    exact execAll_clockIn hs ht hb (execAll_leadingBits hs ht hb hcount command) hdone

end

/-! ### A request row -/

theorem exec_of_requestOf {c : Instr} {command argument : Byte} (hc : requestOf c = some (command, argument))
    {s : State} (hs : Running s) : exec c s = .next (receiveRequest command argument s) := by
  cases c with
  | readSlot | readRun | readState | peekAlert | ackAlert | postNote =>
    cases hc
    exact running_eq_next hs _
  | mirrorUnknownCommand b =>
    cases hb : isCommandByte b with
    | true => simp [requestOf, hb] at hc
    | false =>
      obtain ⟨rfl, rfl⟩ : b = command ∧ 0 = argument := by simpa [requestOf, hb] using hc
      exact exec_mirrorUnknownCommand hs hb
  | _ => exact nomatch hc

/-- A request of which nothing has been clocked agrees with every row (log entry 8). -/
theorem agrees_of_begun {m : Mirror} (hcount : m.bitCount = 0) (hcommand : m.command = 0) (command argument : Byte) :
    m.agrees command argument = true := by
  have hgone : command >>> 8 = 0 := by
    apply BitVec.eq_of_toNat_eq
    rw [BitVec.toNat_ushiftRight, Nat.shiftRight_eq_div_pow]
    exact Nat.div_eq_of_lt command.isLt
  simp [Mirror.agrees, hcount, hcommand, hgone]

/-! ### One bit period of a response -/

/-- The device behind one more bit period of a response, but for what the period's end does (R147). -/
def bitSent (mode : BitVec 2) (mdo : Option Bool) (s : State) : State :=
  { s with mirror := { s.mirror.atPins (idleLevel mode) false mdo with bitCount := s.mirror.bitCount + 1 } }

section
variable {s : State} {mode : BitVec 2} {bit : Bool} (hs : Running s) (ht : s.mirror.transaction = .response)
  (hb : s.mirror.Between mode)
include hs ht hb

theorem execAll_response_trailing (hm : trailingCapture mode = true) : execAll (periodSamples mode bit) s =
    .next (endPeriod (bitSent mode (some (s.mirror.outBit (s.mirror.bitCount + 1))) s)) := by
  have hu := (underWay_iff s.mirror).2 (.inr ht)
  rw [periodSamples, execAll_cons (sample_leading_presents hs hu bit hb hm)]
  refine (execAll_cons (sample_trailing_captures (s := { s with
    mirror := s.mirror.atPins (!idleLevel mode) true (some (s.mirror.outBit (s.mirror.bitCount + 1))) }) hs hu bit
    ⟨hb.inForce, rfl, rfl⟩ hm)).trans (congrArg (fun t => Host.Outcome.next (endPeriod t)) ?_)
  exact captureBit_of_response (s := { s with
    mirror := s.mirror.atPins (idleLevel mode) false (some (s.mirror.outBit (s.mirror.bitCount + 1))) }) ht bit

theorem execAll_response_leading (hm : trailingCapture mode = false) {u : State}
    (hend : endPeriod (bitSent mode s.mirror.mdo s) = u) :
    execAll (periodSamples mode bit) s = .next (setMirror u.mirror.present u) := by
  have hu := (underWay_iff s.mirror).2 (.inr ht)
  rw [periodSamples, execAll_cons (sample_leading_captures hs hu bit hb hm),
    captureBit_of_response (s := { s with mirror := s.mirror.atPins (!idleLevel mode) true s.mirror.mdo }) ht]
  exact execAll_cons (sample_trailing_presents (s := { s with
    mirror := { s.mirror.atPins (!idleLevel mode) true s.mirror.mdo with bitCount := s.mirror.bitCount + 1 } })
    hs hu bit ⟨hb.inForce, rfl, rfl⟩ hm hend)

/-- A bit period inside a record (R147). -/
theorem execAll_insideRecord (hat : s.mirror.bitCount + 1 ≠ s.mirror.nextRecordAt) :
    ∃ out : Bool, execAll (periodSamples mode bit) s = .next (bitSent mode (some out) s) := by
  have hinside (mdo : Option Bool) : endPeriod (bitSent mode mdo s) = bitSent mode mdo s :=
    endPeriod_of_inside (.inr hat)
  cases hm : trailingCapture mode with
  | true => exact ⟨_, (execAll_response_trailing hs ht hb hm).trans (congrArg _ (hinside _))⟩
  | false => exact ⟨_, execAll_response_leading hs ht hb hm (hinside _)⟩

/-- The bit period that ends a record of a run (R150). -/
theorem execAll_endOfRecord (hrun : s.mirror.inRun = true) (hat : s.mirror.bitCount + 1 = s.mirror.nextRecordAt) :
    execAll (periodSamples mode bit) s = .next (nextRunRecord s) := by
  have hend (mdo : Option Bool) : endPeriod (bitSent mode mdo s) = takeNextRecord (bitSent mode mdo s) :=
    endPeriod_of_end hrun hat
  cases hm : trailingCapture mode with
  | true =>
    rw [execAll_response_trailing hs ht hb hm, hend, nextRunRecord, hb.inForce, ← hat]
    exact congrArg _ (if_pos hm).symm
  | false =>
    rw [execAll_response_leading hs ht hb hm (hend _), nextRunRecord, hb.inForce, ← hat]
    exact congrArg _ (if_neg (Bool.eq_false_iff.1 hm)).symm

end

/-- The next record is the same from every bit period of the record before it (log entry 9). -/
theorem nextRunRecord_bitSent {s : State} {mode : BitVec 2} (mdo : Option Bool) :
    nextRunRecord (bitSent mode mdo s) = nextRunRecord s := rfl

/-- The rest of a record clocked out is the next record taken (R150; log entry 9). -/
theorem execAll_restOfRecord {mode : BitVec 2} {mdi : List Bool} : ∀ {s : State} {bit : Bool}, Running s →
    s.mirror.inRun = true → s.mirror.Between mode →
    s.mirror.bitCount + (mdi.length + 1) = s.mirror.nextRecordAt →
    execAll ((bit :: mdi).flatMap (periodSamples mode)) s = .next (nextRunRecord s) := by
  induction mdi with
  | nil =>
    intro s bit hs hrun hb hat
    obtain ⟨ht, -⟩ := (inRun_iff _).1 hrun
    rw [List.flatMap_cons, List.flatMap_nil, List.append_nil]
    exact execAll_endOfRecord hs ht hb hrun hat
  | cons next mdi ih =>
    intro s bit hs hrun hb hat
    obtain ⟨ht, -⟩ := (inRun_iff _).1 hrun
    rw [List.length_cons] at hat
    obtain ⟨out, hout⟩ := execAll_insideRecord (bit := bit) hs ht hb (by omega)
    rw [List.flatMap_cons, execAll_append hout, ← nextRunRecord_bitSent (mode := mode) (some out)]
    exact ih hs hrun ⟨hb.inForce, rfl, rfl⟩
      (show s.mirror.bitCount + 1 + (mdi.length + 1) = s.mirror.nextRecordAt by omega)

/-- Settles O50: a request's bits by the bytes they make, and a record's by induction on the periods left. -/
theorem mirrorRowsAreTheirSamples : Obligations.MirrorRowsAreTheirSamples := by
  refine ⟨fun c command argument s hs hc ht hcount hcommand hp hmclk => ?_,
    fun mdi s hs ht hcommand hstatus hp hmclk hleft hat => ?_⟩
  · have hready : (decide (s.mirror.transaction = .request) && s.mirror.agrees command argument) = true := by
      rw [agrees_of_begun hcount hcommand, decide_eq_true ht, Bool.and_self]
    rw [execAll_request hs ht ⟨rfl, hmclk, hp⟩ hcount, exec_of_requestOf hc hs]
    exact congrArg _ (if_pos hready).symm
  · have hrun := (inRun_iff _).2 ⟨ht, hcommand, hstatus⟩
    cases mdi with
    | nil =>
      rw [List.length_nil] at hat
      omega
    | cons bit mdi =>
      rw [exec_readRunNextRecord hs hrun]
      exact execAll_restOfRecord hs hrun ⟨rfl, hmclk, hp⟩ hat

end Sys2Proof.Machine
end
